-- ==== Sys2Proof/Word.lean ====
section
/-! DEFINITION. The word types of the VC32's wire fields (spec/08, R184). -/

namespace Sys2Proof

/-- One byte of a frame. -/
abbrev Byte := BitVec 8

/-- A 16-bit field: caps, loads, temperatures, the numbers of SET_TUNING. -/
abbrev Half := BitVec 16

/-- A 32-bit field: depot-clock values, vehicle tags, bay lists. -/
abbrev Word := BitVec 32

/-- A vehicle tag, 0 standing for any vehicle in an order. -/
abbrev Tag := BitVec 32

end Sys2Proof
end

