-- ==== Sys2Proof/Config.lean ====
section
/-! DEFINITION. What the implementation fixes (the crystal) and the free values the spec leaves to the world. -/

namespace Sys2Proof.Config

/-- Crystal cycles in one second: the 16 MHz crystal on XIN (spec/00, Signal Description; R190). -/
abbrev second : Nat := 16000000

/-- Crystal cycles that pass in one idle step: one 40 µs character of the bay link (R117).
DESIGN CHOICE, log 2. -/
abbrev tickCycles : Nat := 640

/-- FREE VALUE, log 3. The position at which an event that comes due is taken among the others
that come due in the same idle step: the spec lets either be taken first. -/
opaque tieOrder : Nat → Nat

/-- FREE VALUE, log 12. Whether a pass in flight publishes in this idle step; R76 bounds it by 20 ms only. -/
opaque passDone : Nat → Bool

end Sys2Proof.Config
end

