-- ==== Sys2Proof/Syntax.lean ====
section
/-! DEFINITION. The commands and events of spec/opcode_table.json, one constructor per row. The operands of
the control port's commands are their payload fields (spec/08, section 8.7), at the fields' own widths. -/

namespace Sys2Proof

/-- A handle as it travels: slot byte, then generation byte (R183, R184). -/
structure WireHandle where
  slot : Byte
  gen : Byte
deriving DecidableEq, Repr

/-- One character collected in a reply window; a framing error is received as a corrupt byte (R117). -/
inductive RxChar where
  | byte (b : Byte)
  | corrupt
deriving DecidableEq, Repr

/-- The commands and events, in the order of the table. -/
inductive Instr where
  | nop
  | status
  | clearStatus (flags : Byte)
  | setAttnMask (mask : Byte)
  | readClock
  | setClock (clock : Word)
  | setTuning (period dead lead stale : Half) (selection band : Byte)
  | softReset
  | openOrder (bay : Byte) (tag departure : Word) (target : Half) (band priority options : Byte)
  | amend (h : WireHandle) (force changes : Byte) (departure : Word) (target : Half) (band priority : Byte) (tag : Word)
  | lock (h : WireHandle)
  | unlock (h : WireHandle)
  | close (h : WireHandle) (force : Byte)
  | retire (h : WireHandle)
  | lookup (h : WireHandle) (part : Byte)
  | findByBay (bay : Byte)
  | findByTag (tag : Word) (start : Byte)
  | findByState (code start : Byte)
  | profileRead (tag : Word)
  | profilePreset (tag : Word) (kc u pin : Byte)
  | profileDrop (tag : Word)
  | setCeiling (value : Half)
  | setWorkingCap (value : Half)
  | setCurtailCap (value : Half)
  | setFallbackCap (value : Half)
  | setFeeder (feeder base limit : Byte) (cap : Half)
  /-- `count` is the count byte, `loads` the feeder loads that follow it. -/
  | reportLoad (site : Half) (count : Byte) (loads : List Half)
  | readBudget
  | enableBays (list : Word)
  | linkReset
  | readBay (bay : Byte)
  | rearm (h : WireHandle)
  | curtail (value : Byte)
  | allocateNow
  /-- A transfer's whole bytes, code first. -/
  | frameError (bytes : List Byte)
  | shortTransfer
  /-- `curt`: the level of the CURT line when the reset ends. -/
  | powerOnReset (curt : Bool)
  /-- `curt`: the level the CURT filter holds when the reset ends. -/
  | pinReset (curt : Bool)
  /-- `level`: the new filtered level, true for asserted. -/
  | curtLineChange (level : Bool)
  | allstop
  | clockAdvance
  | periodTimerExpiry
  | publish
  | cycleTimerExpiry
  /-- `chars`: the characters the receiver collected in the window. -/
  | replyWindowClose (chars : List RxChar)
  | linkResetHoldEnd
  | lapse (bay : Fin 32)
  | reversalTimerExpiry (bay : Fin 32)
  | loadStaleTransition
deriving DecidableEq, Repr

end Sys2Proof
end

