-- ==== Sys2Proof/Decode.lean ====
section
/-! DEFINITION. From bits to commands. spec/opcode_table.json gives no row bits, so decodeTableWord answers none
for every word. The wire frames of the control port are received, checked and decoded here as spec/08 gives
(R174 to R176, R182), with the encoder of a command frame after them. -/

namespace Sys2Proof

/-- The response codes of spec/08, section 8.6, "Response codes". -/
inductive RespCode where
  | nothing | ok | crcError | badLength | badCommand | badValue | badTime | noOrder | tableFull | queueFull
  | conflict | locked | closed | notClosed | started | notTripped | stillFaulted | writeOnce | noProfile | inUse
deriving DecidableEq, Repr

/-- The byte of a response code; `nothing` is the spec's NONE. -/
def RespCode.toByte : RespCode → Byte
  | .nothing => 0x00
  | .ok => 0x01
  | .crcError => 0x02
  | .badLength => 0x03
  | .badCommand => 0x04
  | .badValue => 0x05
  | .badTime => 0x06
  | .noOrder => 0x07
  | .tableFull => 0x08
  | .queueFull => 0x09
  | .conflict => 0x0A
  | .locked => 0x0B
  | .closed => 0x0C
  | .notClosed => 0x0D
  | .started => 0x0E
  | .notTripped => 0x0F
  | .stillFaulted => 0x10
  | .writeOnce => 0x11
  | .noProfile => 0x12
  | .inUse => 0x13

/-! ### The table's bits -/

/-- The command a word of the table spells: the table gives no row bits, so none (log 10). -/
def decodeTableWord (_nbits _w : Nat) : Option Instr := none

/-! ### CRC-8 (R175) -/

/-- One feedback step: shift left and, when a 1 leaves, exclusive-or 0x1D. -/
def crcBit (r : Byte) : Byte := if r.msb then (r <<< 1) ^^^ 0x1D#8 else r <<< 1

/-- One byte taken most significant bit first. -/
def crcByte (r b : Byte) : Byte :=
  crcBit (crcBit (crcBit (crcBit (crcBit (crcBit (crcBit (crcBit (r ^^^ b))))))))

/-- The CRC-8 of both links: register starting at 0xFF, no final inversion (R175). -/
def crc8 (bytes : List Byte) : Byte := bytes.foldl crcByte 0xFF#8

/-! ### Fields of more than one byte, most significant byte first (R184) -/

def word16 (hi lo : Byte) : Half := hi ++ lo

def word32 (a b c d : Byte) : Word := a ++ b ++ c ++ d

def bytes16 (w : Half) : List Byte := [w.extractLsb' 8 8, w.extractLsb' 0 8]

def bytes32 (w : Word) : List Byte :=
  [w.extractLsb' 24 8, w.extractLsb' 16 8, w.extractLsb' 8 8, w.extractLsb' 0 8]

/-- The 16-bit fields of a byte list; none when a byte is left over. -/
def halves : List Byte → Option (List Half)
  | [] => some []
  | [_] => none
  | hi :: lo :: rest => (halves rest).map (word16 hi lo :: ·)

/-! ### Receiving a frame (R172, R174) -/

/-- The frame being received. -/
structure RxFrame where
  /-- whole bytes received in this transfer -/
  count : Nat
  code : Byte
  declared : Byte
  overLength : Bool
  payload : List Byte
  crc : Byte
deriving DecidableEq, Repr

def RxFrame.empty : RxFrame :=
  { count := 0, code := 0, declared := 0, overLength := false, payload := [], crc := 0 }

/-- Takes one whole byte (R174): code, declared length, payload, CRC, then filler. A declared length above 44
sets the over-length mark, after which every byte is ignored. -/
def RxFrame.receive (f : RxFrame) (b : Byte) : RxFrame :=
  if f.overLength then f
  else if f.count = 0 then { f with count := 1, code := b }
  else if f.count = 1 then { f with count := 2, declared := b, overLength := decide (44 < b.toNat) }
  else if f.count < 2 + f.declared.toNat then { f with count := f.count + 1, payload := f.payload ++ [b] }
  else if f.count = 2 + f.declared.toNat then { f with count := f.count + 1, crc := b }
  else { f with count := f.count + 1 }

/-- The whole bytes a frame being received still holds, filler and ignored bytes left out. -/
def RxFrame.bytes (f : RxFrame) : List Byte := (f.code :: f.declared :: f.payload ++ [f.crc]).take f.count

/-- The frame after all whole bytes of a transfer. -/
def receiveAll (bytes : List Byte) : RxFrame := bytes.foldl RxFrame.receive RxFrame.empty

/-! ### Judging a frame (R176, R182) -/

/-- What a judged frame is: a command to execute, or the error code of its response. -/
inductive Verdict where
  | command (c : Instr)
  | error (code : RespCode)
deriving DecidableEq, Repr

/-- Check 5 for FIND, in the three steps of R182. -/
def decodeFind (p : List Byte) : Verdict :=
  match p with
  | [] => .error .badLength
  | kind :: rest =>
    if kind = 0 then
      match rest with
      | [bay] => .command (.findByBay bay)
      | _ => .error .badLength
    else if kind = 1 then
      match rest with
      | [a, b, c, d, start] => .command (.findByTag (word32 a b c d) start)
      | _ => .error .badLength
    else if kind = 2 then
      match rest with
      | [code, start] => .command (.findByState code start)
      | _ => .error .badLength
    else .error .badValue

/-- Check 5 for REPORT_LOAD, in the three steps of R182. -/
def decodeReportLoad (p : List Byte) : Verdict :=
  match p with
  | hi :: lo :: count :: rest =>
    if 4 < count.toNat then .error .badValue
    else if rest.length = 2 * count.toNat then
      match halves rest with
      | some loads => .command (.reportLoad (word16 hi lo) count loads)
      | none => .error .badLength
    else .error .badLength
  | _ => .error .badLength

/-- Checks 4 and 5 of R176: the catalogue of R182 and the payload layouts of section 8.7. -/
def decodePayload (code : Byte) (p : List Byte) : Verdict :=
  match code.toNat with
  | 0x00 => match p with | [] => .command .nop | _ => .error .badLength
  | 0x01 => match p with | [] => .command .status | _ => .error .badLength
  | 0x02 => match p with | [f] => .command (.clearStatus f) | _ => .error .badLength
  | 0x03 => match p with | [m] => .command (.setAttnMask m) | _ => .error .badLength
  | 0x04 => match p with | [] => .command .readClock | _ => .error .badLength
  | 0x05 => match p with | [a, b, c, d] => .command (.setClock (word32 a b c d)) | _ => .error .badLength
  | 0x06 =>
    match p with
    | [p1, p0, d1, d0, l1, l0, s1, s0, sel, band] =>
      .command (.setTuning (word16 p1 p0) (word16 d1 d0) (word16 l1 l0) (word16 s1 s0) sel band)
    | _ => .error .badLength
  | 0x0F => match p with | [] => .command .softReset | _ => .error .badLength
  | 0x10 =>
    match p with
    | [bay, t3, t2, t1, t0, d3, d2, d1, d0, g1, g0, band, prio, opts] =>
      .command (.openOrder bay (word32 t3 t2 t1 t0) (word32 d3 d2 d1 d0) (word16 g1 g0) band prio opts)
    | _ => .error .badLength
  | 0x11 =>
    match p with
    | [slot, gen, force, changes, d3, d2, d1, d0, g1, g0, band, prio, t3, t2, t1, t0] =>
      .command (.amend ⟨slot, gen⟩ force changes (word32 d3 d2 d1 d0) (word16 g1 g0) band prio (word32 t3 t2 t1 t0))
    | _ => .error .badLength
  | 0x12 => match p with | [s, g] => .command (.lock ⟨s, g⟩) | _ => .error .badLength
  | 0x13 => match p with | [s, g] => .command (.unlock ⟨s, g⟩) | _ => .error .badLength
  | 0x14 => match p with | [s, g, f] => .command (.close ⟨s, g⟩ f) | _ => .error .badLength
  | 0x15 => match p with | [s, g] => .command (.retire ⟨s, g⟩) | _ => .error .badLength
  | 0x16 => match p with | [s, g, part] => .command (.lookup ⟨s, g⟩ part) | _ => .error .badLength
  | 0x17 => decodeFind p
  | 0x20 => match p with | [a, b, c, d] => .command (.profileRead (word32 a b c d)) | _ => .error .badLength
  | 0x21 =>
    match p with
    | [a, b, c, d, kc, u, pin] => .command (.profilePreset (word32 a b c d) kc u pin)
    | _ => .error .badLength
  | 0x22 => match p with | [a, b, c, d] => .command (.profileDrop (word32 a b c d)) | _ => .error .badLength
  | 0x30 => match p with | [a, b] => .command (.setCeiling (word16 a b)) | _ => .error .badLength
  | 0x31 => match p with | [a, b] => .command (.setWorkingCap (word16 a b)) | _ => .error .badLength
  | 0x32 => match p with | [a, b] => .command (.setCurtailCap (word16 a b)) | _ => .error .badLength
  | 0x33 => match p with | [a, b] => .command (.setFallbackCap (word16 a b)) | _ => .error .badLength
  | 0x34 =>
    match p with
    | [k, base, limit, c1, c0] => .command (.setFeeder k base limit (word16 c1 c0))
    | _ => .error .badLength
  | 0x35 => decodeReportLoad p
  | 0x36 => match p with | [] => .command .readBudget | _ => .error .badLength
  | 0x40 => match p with | [a, b, c, d] => .command (.enableBays (word32 a b c d)) | _ => .error .badLength
  | 0x41 => match p with | [] => .command .linkReset | _ => .error .badLength
  | 0x42 => match p with | [b] => .command (.readBay b) | _ => .error .badLength
  | 0x50 => match p with | [s, g] => .command (.rearm ⟨s, g⟩) | _ => .error .badLength
  | 0x51 => match p with | [v] => .command (.curtail v) | _ => .error .badLength
  | 0x52 => match p with | [] => .command .allocateNow | _ => .error .badLength
  | _ => .error .badCommand

/-- The checks of R176 in their order; none when no whole byte was received (R177). -/
def RxFrame.judge (f : RxFrame) : Option Verdict :=
  if f.count = 0 then none
  else if f.overLength then some (.error .badLength)
  else if f.count < 3 + f.declared.toNat then some (.error .badLength)
  else if f.crc ≠ crc8 (f.code :: f.declared :: f.payload) then some (.error .crcError)
  else some (decodePayload f.code f.payload)

/-- The verdict on the whole bytes of one transfer. -/
def judgeFrame (bytes : List Byte) : Option Verdict := (receiveAll bytes).judge

/-! ### The encoder of a command frame -/

/-- The code and payload of a command of the port (R182, section 8.7); none for the rows that are no command. -/
def encodePayload : Instr → Option (Byte × List Byte)
  | .nop => some (0x00, [])
  | .status => some (0x01, [])
  | .clearStatus f => some (0x02, [f])
  | .setAttnMask m => some (0x03, [m])
  | .readClock => some (0x04, [])
  | .setClock c => some (0x05, bytes32 c)
  | .setTuning p d l st sel band =>
    some (0x06, bytes16 p ++ bytes16 d ++ bytes16 l ++ bytes16 st ++ [sel, band])
  | .softReset => some (0x0F, [])
  | .openOrder bay tag dep target band prio opts =>
    some (0x10, [bay] ++ bytes32 tag ++ bytes32 dep ++ bytes16 target ++ [band, prio, opts])
  | .amend h force changes dep target band prio tag =>
    some (0x11, [h.slot, h.gen, force, changes] ++ bytes32 dep ++ bytes16 target ++ [band, prio] ++ bytes32 tag)
  | .lock h => some (0x12, [h.slot, h.gen])
  | .unlock h => some (0x13, [h.slot, h.gen])
  | .close h force => some (0x14, [h.slot, h.gen, force])
  | .retire h => some (0x15, [h.slot, h.gen])
  | .lookup h part => some (0x16, [h.slot, h.gen, part])
  | .findByBay bay => some (0x17, [0, bay])
  | .findByTag tag start => some (0x17, [1] ++ bytes32 tag ++ [start])
  | .findByState code start => some (0x17, [2, code, start])
  | .profileRead tag => some (0x20, bytes32 tag)
  | .profilePreset tag kc u pin => some (0x21, bytes32 tag ++ [kc, u, pin])
  | .profileDrop tag => some (0x22, bytes32 tag)
  | .setCeiling v => some (0x30, bytes16 v)
  | .setWorkingCap v => some (0x31, bytes16 v)
  | .setCurtailCap v => some (0x32, bytes16 v)
  | .setFallbackCap v => some (0x33, bytes16 v)
  | .setFeeder k base limit cap => some (0x34, [k, base, limit] ++ bytes16 cap)
  | .reportLoad site count loads => some (0x35, bytes16 site ++ [count] ++ loads.flatMap bytes16)
  | .readBudget => some (0x36, [])
  | .enableBays l => some (0x40, bytes32 l)
  | .linkReset => some (0x41, [])
  | .readBay b => some (0x42, [b])
  | .rearm h => some (0x50, [h.slot, h.gen])
  | .curtail v => some (0x51, [v])
  | .allocateNow => some (0x52, [])
  | .frameError _ => none
  | .shortTransfer => none
  | .powerOnReset _ => none
  | .pinReset _ => none
  | .curtLineChange _ => none
  | .allstop => none
  | .clockAdvance => none
  | .periodTimerExpiry => none
  | .publish => none
  | .cycleTimerExpiry => none
  | .replyWindowClose _ => none
  | .linkResetHoldEnd => none
  | .lapse _ => none
  | .reversalTimerExpiry _ => none
  | .loadStaleTransition => none

/-- A command frame from its code and payload: code, declared length, payload, CRC-8 (R174, R175). -/
def frameOf (code : Byte) (payload : List Byte) : List Byte :=
  let body := code :: BitVec.ofNat 8 payload.length :: payload
  body ++ [crc8 body]

/-- The command frame of a command of the port. -/
def encodeFrame (i : Instr) : Option (List Byte) := (encodePayload i).map fun cp => frameOf cp.1 cp.2

end Sys2Proof
end

