-- ==== Sys2Proof/Machine/State.lean ====
section
/-! DEFINITION. The state of the VC32 as plain data, and its value when a power-on reset ends. -/

namespace Sys2Proof.Machine

/-! ### Names -/

inductive Priority where
  | standard | elevated | urgent
deriving DecidableEq, Repr

/-- Mode of a grant. -/
inductive Mode where
  | off | heat | cool
deriving DecidableEq, Repr

/-- Wanted mode of an evaluation (R3, R39). -/
inductive Wanted where
  | off | heat | cool | inBand
deriving DecidableEq, Repr

inductive PauseReason where
  | absent | wrongVehicle | stale | unmapped | incapable | curtail | linkReset | cabinLimit | overdraw | hvacFault
deriving DecidableEq, Repr

/-- Order states; the pause reason is present exactly while PAUSED (R1). -/
inductive OrderState where
  | queued | planned | active | holding
  | paused (reason : PauseReason)
  | tripped | closed
deriving DecidableEq, Repr

inductive OutcomeKind where
  | ready | short | unplugged | ended | tripped | absent
deriving DecidableEq, Repr

/-- Trip causes (R156, R157). -/
inductive Cause where
  | cabinLimit | overdraw | hvacFault | silent
deriving DecidableEq, Repr

/-- A set of trip causes: the trip selection, the later causes of a trip record. -/
structure CauseSet where
  cabinLimit : Bool
  overdraw : Bool
  hvacFault : Bool
  silent : Bool
deriving DecidableEq, Repr

inductive LinkState where
  | disabled | unseen | online | silent
deriving DecidableEq, Repr

inductive LoadState where
  | fresh | stale
deriving DecidableEq, Repr

inductive Connector where
  | plugged | unplugged
deriving DecidableEq, Repr

inductive Hvac where
  | idle | heating | cooling | fault
deriving DecidableEq, Repr

/-! ### Control port (R172) -/

/-- The prepared response. -/
structure Response where
  code : RespCode
  payload : List Byte
deriving DecidableEq, Repr

/-- CS_N as the port takes it (R171, R172). -/
inductive ChipSelect where
  | high
  /-- low, with a transfer under way -/
  | low
  /-- low, with nothing received until CS_N has risen: its falling edge came before a reset ended -/
  | ignored
deriving DecidableEq, Repr

/-- How far a reset with a cause at the pins has come (R172, R201). -/
inductive ResetPhase where
  /-- none is in progress -/
  | over
  /-- the part is held: RESET_N is low, or the power-on reset runs -/
  | under
  /-- its end has come, and its row waits in the queue (log 9) -/
  | ending
deriving DecidableEq, Repr

/-- The pins of the port between two edges, and what holds the part in reset (R171, R172, R201). -/
structure Pins where
  /-- the power-on reset -/
  supply : ResetPhase
  /-- the pin reset, on RESET_N -/
  resetN : ResetPhase
  cs : ChipSelect
  /-- MOSI bits sampled since the last whole byte of this transfer, first bit first -/
  inBits : List Bool
  /-- bits driven on MISO after the first bit of this transfer -/
  driven : Nat
  /-- SCLK has risen since the last bit was driven -/
  rose : Bool
deriving DecidableEq, Repr

/-! ### Order table (R1 to R4) -/

structure Activation where
  cabin : Int
  loss : Nat
  time : Nat
  kc : Nat
  u : Nat
deriving DecidableEq, Repr

structure Figures where
  wanted : Wanted
  demand : Nat
  eNeed : Nat
  tNeed : Nat
  slack : Int
  startAt : Nat
deriving DecidableEq, Repr

structure OrderFlags where
  shortfall : Bool
  starved : Bool
  reversing : Bool
  noProfile : Bool
  learned : Bool
deriving DecidableEq, Repr

structure TripRecord where
  first : Cause
  later : CauseSet
  time : Nat
  cabin : Option Int
deriving DecidableEq, Repr

structure OutcomeRecord where
  kind : OutcomeKind
  time : Nat
  finalCabin : Option Int
  energy : Nat
  reachedBand : Bool
deriving DecidableEq, Repr

/-- An order record (R1). Its handle is its slot number with the slot's generation (R4). -/
structure Order where
  bay : Fin 32
  tag : Tag
  departure : Nat
  target : Int
  band : Nat
  priority : Priority
  locked : Bool
  state : OrderState
  started : Bool
  activation : Option Activation
  energy : Nat
  remainder : Nat
  figures : Option Figures
  flags : OrderFlags
  trip : Option TripRecord
  outcome : Option OutcomeRecord
deriving DecidableEq, Repr

/-- A slot: generation counter (R4), learning mark (R65), change mark (R94), and the order it holds. -/
structure Slot where
  gen : Byte
  learnMark : Bool
  changeMark : Bool
  order : Option Order
deriving DecidableEq, Repr

/-! ### Profiles (R55) -/

structure Profile where
  tag : Tag
  kc : Nat
  u : Nat
  samples : Nat
  pinned : Bool
deriving DecidableEq, Repr

/-! ### Bay table (R120) -/

structure Telemetry where
  connector : Connector
  tag : Tag
  cabin : Int
  outdoor : Int
  heatCap : Nat
  coolCap : Nat
  power : Nat
  hvac : Hvac
deriving DecidableEq, Repr

structure Grant where
  mode : Mode
  steps : Nat
  seq : Nat
deriving DecidableEq, Repr

/-- A running reversal timer: remembered mode and crystal cycles left (R167). -/
structure Reversal where
  mode : Mode
  left : Nat
deriving DecidableEq, Repr

structure Bay where
  enabled : Bool
  link : LinkState
  misses : Nat
  stamp : Option Nat
  tele : Option Telemetry
  pending : Grant
  applied : Grant
  /-- running lapse timer, crystal cycles left -/
  lapse : Option Nat
  overdraw : Nat
  reversal : Option Reversal
deriving DecidableEq, Repr

/-- The exchange in progress: bay polled, sequence sent, crystal cycles since its GRANT began (R125). -/
structure Exchange where
  bay : Fin 32
  seqSent : Nat
  age : Nat
  /-- MODEL: the first exchange of a cycle that an expiry of the cycle timer has begun (log 22) -/
  opening : Bool
deriving DecidableEq, Repr

/-! ### Site budget unit -/

/-- A feeder's window and cap (R108). -/
structure Window where
  base : Nat
  limit : Nat
  cap : Nat
deriving DecidableEq, Repr

/-- The load record (R111); the age is in crystal cycles. -/
structure LoadRecord where
  site : Nat
  feeders : Vector Nat 4
  state : LoadState
  age : Option Nat
deriving DecidableEq, Repr

/-! ### The CURT line (R149) -/

/-- The CURT line and its filter, which counts from the crystal (R149, R191). -/
structure CurtFilter where
  /-- the level of the line -/
  line : Bool
  /-- the filtered level -/
  level : Bool
  /-- crystal cycles for which the line has differed from the filtered level -/
  since : Nat
deriving DecidableEq, Repr

/-! ### Tuning values (R194) -/

structure Tuning where
  period : Nat
  dead : Nat
  lead : Nat
  stale : Nat
  selection : CauseSet
  band : Nat
deriving DecidableEq, Repr

/-! ### The snapshot of a pass (R77) -/

structure SnapBay where
  link : LinkState
  tele : Option Telemetry
  stamp : Option Nat
  appliedMode : Mode
  appliedSteps : Nat
  pendingMode : Mode
  pendingSteps : Nat
  overdraw : Nat
  /-- remembered mode of a running reversal timer -/
  resting : Option Mode
  feeder : Option (Fin 4)
  /-- slot and generation of the head order -/
  head : Option (Fin 48 × Byte)
deriving DecidableEq, Repr

/-- A head to be evaluated, with the Kc and U that R37 chooses for it. -/
structure SnapHead where
  slot : Fin 48
  gen : Byte
  state : OrderState
  bay : Fin 32
  tag : Tag
  departure : Nat
  target : Int
  band : Nat
  priority : Priority
  started : Bool
  activation : Option Activation
  kc : Nat
  u : Nat
deriving DecidableEq, Repr

structure Snapshot where
  now : Nat
  bays : Vector SnapBay 32
  hold : Bool
  /-- the heads to be evaluated, ascending bay number -/
  heads : List SnapHead
  site : Nat
  feeders : Vector Nat 4
  curtailed : Bool
  selection : CauseSet
  lead : Nat
deriving DecidableEq, Repr

/-- The pass in flight: its snapshot and the crystal cycles since it was taken (R76). Its evaluations, ranking, budgets and
results (R72) are functions of the snapshot and not stored (log 24). -/
structure Pass where
  snap : Snapshot
  age : Nat
deriving DecidableEq, Repr

/-! ### The state -/

/-- The whole state, block by block. Timers count crystal cycles left; 16,000,000 are one second. -/
structure State where
  /-- MODEL: the commands and events that wait, first in first out -/
  pending : List Instr
  -- Control Port
  response : Response
  rx : RxFrame
  pins : Pins
  -- Order Manager
  slots : Vector Slot 48
  queues : Vector (List (Fin 48)) 32
  -- Profile Table, in use order, most recent first
  profiles : List Profile
  -- Allocation Engine
  /-- 0 once expired and not yet restarted -/
  periodTimer : Nat
  pass : Option Pass
  passMark : Bool
  -- Site Budget Unit
  ceiling : Nat
  workingCap : Nat
  curtailCap : Nat
  fallbackCap : Nat
  windows : Vector Window 4
  load : LoadRecord
  -- Bay Link Controller
  bays : Vector Bay 32
  cycleTimer : Nat
  /-- next bay number to poll of a cycle in progress -/
  cycle : Option Nat
  deferred : Bool
  exchange : Option Exchange
  allstop : Option Word
  /-- crystal cycles since the frame of the ALLSTOP being sent began -/
  sending : Option Nat
  hold : Option Nat
  /-- MODEL: the bytes of the GRANT last sent -/
  grantFrame : List Byte
  /-- MODEL: the bytes of the ALLSTOP last sent -/
  allstopFrame : List Byte
  -- Protection Unit
  curt : CurtFilter
  lineState : Bool
  softCurtail : Bool
  -- Depot Clock and Attention
  clock : Nat
  /-- crystal cycles of the current second already elapsed -/
  phase : Nat
  tuning : Tuning
  flags : Byte
  mask : Byte
  /-- MODEL: index of the next free value -/
  freeIndex : Nat
deriving DecidableEq, Repr

/-- Faults: none. No rule of the spec stops the part. -/
inductive Fault : Type
deriving DecidableEq, Repr

/-- Refusals. -/
inductive Refusal where
  /-- A row of the table without a meaning. Raised by no arm of exec. Safe. -/
  | notModelled (mnemonic : String)
deriving DecidableEq, Repr

/-! ### Values after a power-on reset -/

/-- An empty slot with generation 0 (R31). -/
def Slot.initial : Slot := { gen := 0, learnMark := false, changeMark := false, order := none }

/-- OFF with 0 steps and sequence 0 (R146). -/
def Grant.initial : Grant := { mode := .off, steps := 0, seq := 0 }

/-- A bay record after a power-on or pin reset (R146). -/
def Bay.initial : Bay :=
  { enabled := false, link := .disabled, misses := 0, stamp := none, tele := none, pending := .initial,
    applied := .initial, lapse := none, overdraw := 0, reversal := none }

/-- The feeder windows after a power-on or pin reset (R108). -/
def Window.initial : Vector Window 4 :=
  #v[{ base := 0, limit := 31, cap := 0 }, { base := 31, limit := 0, cap := 0 },
     { base := 31, limit := 0, cap := 0 }, { base := 31, limit := 0, cap := 0 }]

/-- The load record after any reset (R114). -/
def LoadRecord.initial : LoadRecord :=
  { site := 0, feeders := #v[0, 0, 0, 0], state := .stale, age := none }

/-- The tuning values after a power-on or pin reset (R194). -/
def Tuning.initial : Tuning :=
  { period := 15, dead := 180, lead := 1800, stale := 30,
    selection := { cabinLimit := true, overdraw := true, hvacFault := true, silent := false }, band := 10 }

/-- The pins with CS_N high and RESET_N high. The level of CS_N when a power-on reset ends is log 1. -/
def Pins.initial : Pins :=
  { supply := .over, resetN := .over, cs := .high, inBits := [], driven := 0, rose := false }

/-- The filter holding a level, the line at that level (R149). -/
def CurtFilter.steady (level : Bool) : CurtFilter := { line := level, level := level, since := 0 }

/-- The machine when a power-on reset has ended with the CURT line not asserted (R31, R70, R72, R101 to R108,
R114, R121, R141, R146, R148, R149, R170, R172, R190, R194, R197, R200). The levels of CURT and CS_N are log 1. -/
def State.reset : State :=
  { pending := []
    response := { code := .nothing, payload := [] }
    rx := .empty
    pins := .initial
    slots := Vector.replicate 48 .initial
    queues := Vector.replicate 32 []
    profiles := []
    periodTimer := 15 * Config.second
    pass := none
    passMark := false
    ceiling := 0
    workingCap := 0
    curtailCap := 0
    fallbackCap := 0
    windows := Window.initial
    load := .initial
    bays := Vector.replicate 32 .initial
    cycleTimer := Config.second
    cycle := none
    deferred := false
    exchange := none
    allstop := none
    sending := none
    hold := some (2 * Config.second)
    grantFrame := []
    allstopFrame := []
    curt := .steady false
    lineState := false
    softCurtail := false
    clock := 0
    phase := 0
    tuning := .initial
    flags := 0x80
    mask := 0xFF
    freeIndex := 0 }

end Sys2Proof.Machine
end

