-- ==== Sys2Proof/Machine/Operands.lean ====
section
/-! DEFINITION. How operand fields are read (R183), how response fields are written (R184, R185), and the integer
arithmetic they share (R33 and spec/00, Units and ranges). -/

namespace Sys2Proof.Machine

/-! ### Integers -/

/-- ceil(a / b) for operands that are not negative (R33). -/
def ceilDiv (a b : Nat) : Nat := (a + b - 1) / b

/-- A value below the range becomes the lower bound, one above it the upper bound (spec/00). -/
def clamp (lo hi n : Nat) : Nat := max lo (min hi n)

def clampInt (lo hi n : Int) : Int := max lo (min hi n)

/-- Distance of two depot-clock values, formed without wrap-around. -/
def distance (a b : Nat) : Nat := (a - b) + (b - a)

/-- The highest value of the depot clock, where it saturates (R190). -/
def clockMax : Nat := 4294967295

/-- Whole seconds left of a running timer, rounded up (R145). -/
def secondsUp (cycles : Nat) : Nat := ceilDiv cycles Config.second

/-- Whole seconds of an elapsed interval (log 15). -/
def secondsDown (cycles : Nat) : Nat := cycles / Config.second

/-! ### Reading operand fields -/

/-- A flag byte: 0 means no, any other value means yes. -/
def flagByte (b : Byte) : Bool := b != 0

/-- Bit `i` of a list of named bits. -/
def namedBit (b : Byte) (i : Nat) : Bool := b.getLsbD i

def priorityOf (b : Byte) : Option Priority :=
  if b = 0 then some .standard else if b = 1 then some .elevated else if b = 2 then some .urgent else none

/-- A bay byte; none above 31. -/
def bayOfByte (b : Byte) : Option (Fin 32) := if h : b.toNat < 32 then some ⟨b.toNat, h⟩ else none

/-- A slot byte; none above 47. -/
def slotOfByte (b : Byte) : Option (Fin 48) := if h : b.toNat < 48 then some ⟨b.toNat, h⟩ else none

/-- A feeder byte; none above 3. -/
def feederOfByte (b : Byte) : Option (Fin 4) := if h : b.toNat < 4 then some ⟨b.toNat, h⟩ else none

/-- A target in tenths of a degree, clamped to 160..280 (R14, R18). -/
def targetOf (w : Half) : Int := clampInt 160 280 w.toInt

/-- A band in tenths of a degree, clamped to 3..30 (R14, R18). -/
def bandOf (b : Byte) : Nat := clamp 3 30 b.toNat

/-- A set of trip causes: bits 0 to 3, the others ignored (R184, R195). -/
def causeSetOf (b : Byte) : CauseSet :=
  { cabinLimit := namedBit b 0, overdraw := namedBit b 1, hvacFault := namedBit b 2, silent := namedBit b 3 }

def CauseSet.has (c : CauseSet) : Cause → Bool
  | .cabinLimit => c.cabinLimit
  | .overdraw => c.overdraw
  | .hvacFault => c.hvacFault
  | .silent => c.silent

def CauseSet.insert (c : CauseSet) : Cause → CauseSet
  | .cabinLimit => { c with cabinLimit := true }
  | .overdraw => { c with overdraw := true }
  | .hvacFault => { c with hvacFault := true }
  | .silent => { c with silent := true }

def CauseSet.empty : CauseSet := { cabinLimit := false, overdraw := false, hvacFault := false, silent := false }

/-! ### Writing response fields, most significant byte first -/

/-- An unsigned field of one byte. -/
def byteOf (n : Nat) : Byte := BitVec.ofNat 8 n

def be16 (n : Nat) : List Byte := bytes16 (BitVec.ofNat 16 n)

def be32 (n : Nat) : List Byte := bytes32 (BitVec.ofNat 32 n)

/-- A signed 16-bit field in two's complement. -/
def beInt16 (i : Int) : List Byte := bytes16 (BitVec.ofInt 16 i)

/-- A signed 32-bit field in two's complement. -/
def beInt32 (i : Int) : List Byte := bytes32 (BitVec.ofInt 32 i)

/-- Flags and Boolean states are returned as 0 or 1 (R185). -/
def boolByte (b : Bool) : Byte := if b then 1 else 0

def zeros (n : Nat) : List Byte := List.replicate n 0

/-- An optional part: presence byte 1 and its fields, or presence byte 0 and zeros (R185). DEDUCED, log 21: the fields
zeroed are those of the absent part; what follows them keeps its value, as R115 and R145 list it apart. -/
def optPart {α : Type} (width : Nat) (fields : α → List Byte) : Option α → List Byte
  | some a => 1 :: fields a
  | none => 0 :: zeros width

/-! ### Enumeration codes (R184) -/

def Priority.code : Priority → Nat
  | .standard => 0
  | .elevated => 1
  | .urgent => 2

def OrderState.code : OrderState → Nat
  | .queued => 0
  | .planned => 1
  | .active => 2
  | .holding => 3
  | .paused _ => 4
  | .tripped => 5
  | .closed => 6

def PauseReason.code : PauseReason → Nat
  | .absent => 1
  | .wrongVehicle => 2
  | .stale => 3
  | .unmapped => 4
  | .incapable => 5
  | .curtail => 6
  | .linkReset => 7
  | .cabinLimit => 8
  | .overdraw => 9
  | .hvacFault => 10

/-- The pause reason field of LOOKUP part 0: 0 when there is none. -/
def OrderState.reasonCode : OrderState → Nat
  | .paused r => r.code
  | .queued | .planned | .active | .holding | .tripped | .closed => 0

def Mode.code : Mode → Nat
  | .off => 0
  | .heat => 1
  | .cool => 2

def Wanted.code : Wanted → Nat
  | .off => 0
  | .heat => 1
  | .cool => 2
  | .inBand => 3

def OutcomeKind.code : OutcomeKind → Nat
  | .ready => 0
  | .short => 1
  | .unplugged => 2
  | .ended => 3
  | .tripped => 4
  | .absent => 5

def Cause.code : Cause → Nat
  | .cabinLimit => 0
  | .overdraw => 1
  | .hvacFault => 2
  | .silent => 3

def LinkState.code : LinkState → Nat
  | .disabled => 0
  | .unseen => 1
  | .online => 2
  | .silent => 3

def LoadState.code : LoadState → Nat
  | .fresh => 0
  | .stale => 1

def Connector.code : Connector → Nat
  | .plugged => 0
  | .unplugged => 1

def Hvac.code : Hvac → Nat
  | .idle => 0
  | .heating => 1
  | .cooling => 2
  | .fault => 3

def connectorOf (b : Byte) : Option Connector :=
  if b = 0 then some .plugged else if b = 1 then some .unplugged else none

def hvacOf (b : Byte) : Option Hvac :=
  if b = 0 then some .idle else if b = 1 then some .heating else if b = 2 then some .cooling
  else if b = 3 then some .fault else none

def CauseSet.code (c : CauseSet) : Nat :=
  c.cabinLimit.toNat + 2 * c.overdraw.toNat + 4 * c.hvacFault.toNat + 8 * c.silent.toNat

end Sys2Proof.Machine
end

