-- ==== Sys2Proof/Machine/Flags.lean ====
section
/-! DEFINITION. Event flags, the attention line (R196 to R201) and the flags of an order record (R2, R184). -/

namespace Sys2Proof.Machine

/-! ### Event flags, bit by bit (R184) -/

inductive EventFlag where
  | orderClosed | orderTripped | starved | baySilent | loadStale | curtailChange | linkResetDone | reset
deriving DecidableEq, Repr

/-- The flag's bit in STATUS, CLEAR_STATUS and the mask. -/
def EventFlag.bit : EventFlag → Byte
  | .orderClosed => 0x01
  | .orderTripped => 0x02
  | .starved => 0x04
  | .baySilent => 0x08
  | .loadStale => 0x10
  | .curtailChange => 0x20
  | .linkResetDone => 0x40
  | .reset => 0x80

/-- Raising a flag sets it and leaves the others (R196). -/
def raise (f : EventFlag) (s : State) : State := { s with flags := s.flags ||| f.bit }

/-- ATTN_N asserted: some set flag has its mask bit set (R200). -/
def attnAsserted (s : State) : Bool := s.flags &&& s.mask != 0

/-! ### Flags of an order record -/

/-- NO_PROFILE as decided, the others clear (R14). -/
def OrderFlags.atOpen (noProfile : Bool) : OrderFlags :=
  { shortfall := false, starved := false, reversing := false, noProfile := noProfile, learned := false }

/-- Bits 0 to 4: SHORTFALL, STARVED, REVERSING, NO_PROFILE, LEARNED (R184). -/
def OrderFlags.code (f : OrderFlags) : Nat :=
  f.shortfall.toNat + 2 * f.starved.toNat + 4 * f.reversing.toNat + 8 * f.noProfile.toNat + 16 * f.learned.toNat

end Sys2Proof.Machine
end

