-- ==== Sys2Proof/Machine/Ops.lean ====
section
/-! DEFINITION. The operations the commands and events share: access to slots, queues and bays, answering a command,
pending and applied grants, head changes, closing, departure expiry, and consulting the profile table. -/

namespace Sys2Proof.Machine

/-! ### Reset at the pins -/

/-- The part is held in reset: RESET_N is low, or a power-on reset has not ended (R172, R201). -/
def Pins.held (p : Pins) : Bool := p.supply != .over || p.resetN != .over

/-! ### Bays -/

def allBays : List (Fin 32) := List.finRange 32

def bayAt (s : State) (b : Fin 32) : Bay := s.bays[b]

def setBay (s : State) (b : Fin 32) (x : Bay) : State := { s with bays := s.bays.set b x }

/-- Rewrites every bay record. -/
def mapBays (f : Fin 32 → Bay → Bay) (s : State) : State :=
  { s with bays := Vector.ofFn fun b => f b s.bays[b] }

/-! ### Slots and orders -/

def allSlots : List (Fin 48) := List.finRange 48

def slotAt (s : State) (i : Fin 48) : Slot := s.slots[i]

def setSlot (s : State) (i : Fin 48) (x : Slot) : State := { s with slots := s.slots.set i x }

def mapSlots (f : Fin 48 → Slot → Slot) (s : State) : State :=
  { s with slots := Vector.ofFn fun i => f i s.slots[i] }

def orderAt (s : State) (i : Fin 48) : Option Order := (slotAt s i).order

/-- Writes the order record of a slot; generation and marks stay. -/
def putOrder (s : State) (i : Fin 48) (o : Order) : State := setSlot s i { slotAt s i with order := some o }

/-- A live order is one that is not CLOSED (spec/00, Terms). -/
def Order.live (o : Order) : Bool := o.state != .closed

/-- A head that keeps first place: started or TRIPPED (R8, R13, R17). -/
def Order.fixed (o : Order) : Bool := o.started || o.state == .tripped

/-- A head that is running: ACTIVE or HOLDING. -/
def Order.running (o : Order) : Bool := o.state == .active || o.state == .holding

/-- Resolving a handle (R5): slot at most 47, occupied, generation equal. -/
def resolve (s : State) (h : WireHandle) : Option (Fin 48 × Order) :=
  match slotOfByte h.slot with
  | none => none
  | some i => if (slotAt s i).gen = h.gen then (orderAt s i).map fun o => (i, o) else none

/-- The handle of the order in a slot: slot byte and generation byte (R184). -/
def handleBytes (s : State) (i : Fin 48) : List Byte := [byteOf i.val, (slotAt s i).gen]

/-! ### Queues -/

def queueAt (s : State) (b : Fin 32) : List (Fin 48) := s.queues[b]

def setQueue (s : State) (b : Fin 32) (q : List (Fin 48)) : State := { s with queues := s.queues.set b q }

/-- The head of a bay: the first entry of its queue (R8). -/
def headSlot (s : State) (b : Fin 32) : Option (Fin 48) := (queueAt s b).head?

def headOrder (s : State) (b : Fin 32) : Option (Fin 48 × Order) :=
  match headSlot s b with
  | none => none
  | some i => (orderAt s i).map fun o => (i, o)

/-- The departure of a slot's order. -/
def departureAt (s : State) (i : Fin 48) : Nat :=
  match orderAt s i with
  | some o => o.departure
  | none => 0

/-- Inserts a slot before the first entry that departs later (R7, R15). -/
def insertByDeparture (dep : Fin 48 → Nat) (i : Fin 48) : List (Fin 48) → List (Fin 48)
  | [] => [i]
  | j :: rest => if dep i < dep j then i :: j :: rest else j :: insertByDeparture dep i rest

/-! ### Answering a command (R178) -/

/-- The response to the command executed; the frame being received is empty afterwards (R176). -/
def answer (code : RespCode) (payload : List Byte) (s : State) : State :=
  { s with response := { code := code, payload := payload }, rx := .empty }

/-- A refusal code with an empty payload (R12). -/
def refuse (code : RespCode) (s : State) : State := answer code [] s

/-! ### Pending grants (R128) -/

/-- The next sequence: plus one from 1..14, and 1 after 15 or after 0. -/
def nextSeq (n : Nat) : Nat := if 1 ≤ n ∧ n ≤ 14 then n + 1 else 1

/-- The bay record after a write of its pending grant: an equal value changes nothing, a different one is stored
with the next sequence. -/
def Bay.offer (x : Bay) (mode : Mode) (steps : Nat) : Bay :=
  if x.pending.mode = mode ∧ x.pending.steps = steps then x
  else { x with pending := { mode := mode, steps := steps, seq := nextSeq x.pending.seq } }

def writePending (s : State) (b : Fin 32) (mode : Mode) (steps : Nat) : State :=
  setBay s b ((bayAt s b).offer mode steps)

/-- Writing OFF/0. -/
def zeroPending (s : State) (b : Fin 32) : State := writePending s b .off 0

/-! ### Applied grants (R130, R132, R133, R167) -/

/-- The reversal timer after a change of applied mode; `dead` is the dead time of the tuning values in seconds.
HEAT to COOL and COOL to HEAT have no row in R167 (R169 excludes them): unchanged, log 14. -/
def reversalAfter (dead : Nat) (before after : Mode) (timer : Option Reversal) : Option Reversal :=
  match before, after with
  | .off, .off => timer
  | .off, .heat => none
  | .off, .cool => none
  | .heat, .off => some { mode := .heat, left := dead * Config.second }
  | .cool, .off => some { mode := .cool, left := dead * Config.second }
  | .heat, .heat => timer
  | .cool, .cool => timer
  | .heat, .cool => timer
  | .cool, .heat => timer

/-- A new applied grant and lapse timer; the change is handed to the reversal timer (R133). -/
def Bay.apply (x : Bay) (dead : Nat) (g : Grant) (lapse : Option Nat) : Bay :=
  { x with applied := g, lapse := lapse, reversal := reversalAfter dead x.applied.mode g.mode x.reversal }

/-- The applied grant OFF with 0 steps and sequence 0, the lapse timer stopped (R132, R139). -/
def Bay.drop (x : Bay) (dead : Nat) : Bay := x.apply dead .initial none

/-! ### Head changes (R9) -/

/-- Promotion: a QUEUED order that is first in its queue becomes PLANNED; its change mark is set (R94). -/
def promoteHead (s : State) (b : Fin 32) : State :=
  match headOrder s b with
  | none => s
  | some (i, o) =>
    if o.state = .queued then
      setSlot s i { slotAt s i with order := some { o with state := .planned }, changeMark := true }
    else s

/-- Displacement: QUEUED, pause reason removed, REVERSING cleared; the change mark is set (R94). -/
def displace (s : State) (i : Fin 48) : State :=
  match orderAt s i with
  | none => s
  | some o =>
    setSlot s i { slotAt s i with
      order := some { o with state := .queued, flags := { o.flags with reversing := false } }
      changeMark := true }

/-- After a queue has changed without a closing: a head that lost first place is displaced and the new first order
promoted; `old` is the head before. -/
def rehead (s : State) (b : Fin 32) (old : Option (Fin 48)) : State :=
  if headSlot s b = old then s
  else
    match old with
    | none => promoteHead s b
    | some i => promoteHead (displace s i) b

/-! ### Closing (R10, R11) -/

/-- The cabin temperature of the bay's telemetry, whatever its age. -/
def cabinAt (s : State) (b : Fin 32) : Option Int := (bayAt s b).tele.map fun t => t.cabin

/-- Whether a final cabin temperature lies within the order's band of its target (R11). -/
def reachedBand (o : Order) : Option Int → Bool
  | none => false
  | some c => decide ((c - o.target).natAbs ≤ o.band)

/-- Steps 1 and 2 of R10. -/
def closedOrder (s : State) (o : Order) (kind : OutcomeKind) : Order :=
  { o with
    state := .closed
    flags := { o.flags with reversing := false }
    outcome := some
      { kind := kind, time := s.clock, finalCabin := cabinAt s o.bay, energy := o.energy,
        reachedBand := reachedBand o (cabinAt s o.bay) } }

/-- Writes the closed record of a slot's order. -/
def closeRecord (s : State) (i : Fin 48) (kind : OutcomeKind) : State :=
  match orderAt s i with
  | none => s
  | some o => putOrder s i (closedOrder s o kind)

/-- Steps 3 and 4 of R10: the orders of `gone` leave the queue together; if the head was one of them the pending
grant becomes OFF/0 and the earliest order left is promoted (R27). -/
def leaveQueue (s : State) (b : Fin 32) (gone : List (Fin 48)) : State :=
  let q := queueAt s b
  let left := setQueue s b (q.filter fun i => !gone.contains i)
  match q.head? with
  | none => left
  | some h => if gone.contains h then promoteHead (zeroPending left b) b else left

/-- Closing one order (R10). -/
def closeOrder (s : State) (i : Fin 48) (kind : OutcomeKind) : State :=
  match orderAt s i with
  | none => s
  | some o => raise .orderClosed (leaveQueue (closeRecord s i kind) o.bay [i])

/-! ### Departure expiry (R27, R28) -/

/-- The outcome of R28, its cases in order. -/
def expiryOutcome (o : Order) : OutcomeKind :=
  if o.state = .tripped then .tripped
  else if o.state = .holding then .ready
  else if o.started then .short
  else .absent

/-- Live and departing at or before the clock value. -/
def expiresAt (s : State) (clock : Nat) (i : Fin 48) : Bool :=
  match orderAt s i with
  | none => false
  | some o => o.live && decide (o.departure ≤ clock)

/-- Closes every live order whose departure is at or before the clock. -/
def expire (s : State) : State :=
  let due := allSlots.filter (expiresAt s s.clock)
  if due.isEmpty then s
  else
    let written := due.foldl (fun t i =>
      match orderAt t i with
      | none => t
      | some o => closeRecord t i (expiryOutcome o)) s
    raise .orderClosed (allBays.foldl (fun t b => leaveQueue t b due) written)

/-! ### Profiles (R56 to R60) -/

/-- The profile of a tag; tag 0 names none (R56). -/
def findProfile (s : State) (tag : Tag) : Option Profile :=
  if tag = 0 then none else s.profiles.find? fun p => p.tag == tag

/-- A slot whose live order carries the tag. -/
def carries (s : State) (tag : Tag) (i : Fin 48) : Bool :=
  match orderAt s i with
  | none => false
  | some o => o.live && o.tag == tag

/-- The number of live orders that reference a tag's profile (R58). -/
def referenceCount (s : State) (tag : Tag) : Nat := (allSlots.filter (carries s tag)).length

def referenced (s : State) (tag : Tag) : Bool := tag != 0 && allSlots.any (carries s tag)

/-- The victim of R60: from the least recently used, the first that is neither pinned nor referenced. -/
def victim (s : State) : Option Profile :=
  s.profiles.reverse.find? fun p => !p.pinned && !referenced s p.tag

def withoutProfile (s : State) (tag : Tag) : List Profile := s.profiles.filter fun p => p.tag != tag

/-- Puts a profile at most-recent, its former record and place gone (R57). -/
def placeFirst (s : State) (p : Profile) : State := { s with profiles := p :: withoutProfile s p.tag }

/-- Room for a creation (R59, R60): the table with any victim removed and the victim's tag, 0 for none; none when the
table is full and has no victim. -/
def makeRoom (s : State) : Option (State × Tag) :=
  if s.profiles.length < 64 then some (s, 0)
  else (victim s).map fun v => ({ s with profiles := withoutProfile s v.tag }, v.tag)

/-- A profile created by a consultation (R55). -/
def freshProfile (tag : Tag) : Profile := { tag := tag, kc := 45, u := 20, samples := 0, pinned := false }

/-- Consulting the table for a tag (R59), and the NO_PROFILE decision; tag 0 is not consulted (R14). -/
def consult (s : State) (tag : Tag) : State × Bool :=
  if tag = 0 then (s, false)
  else
    match findProfile s tag with
    | some p => (placeFirst s p, false)
    | none =>
      match makeRoom s with
      | some (t, _) => (placeFirst t (freshProfile tag), false)
      | none => (s, true)

/-! ### Curtailment in force (R148) -/

def inForce (s : State) : Bool := s.lineState || s.softCurtail

/-! ### What a transfer shifts out -/

/-- The response frame of a prepared response (R179). -/
def responseFrame (r : Response) : List Byte := frameOf r.code.toByte r.payload

/-- The first `n` bytes shifted out on MISO during a transfer: the response frame, then 0x00 (R173). -/
def misoBytes (s : State) (n : Nat) : List Byte :=
  let f := responseFrame s.response
  f.take n ++ zeros (n - f.length)

end Sys2Proof.Machine
end

