-- ==== Sys2Proof/Machine/Budget.lean ====
section
/-! DEFINITION. The site budget unit (spec/05, R101 to R116): caps, feeder windows, load report, headroom. -/

namespace Sys2Proof.Machine

/-! ### Headroom -/

/-- The effective cap, formed from the curtailment state (R105). -/
def effectiveCap (s : State) : Nat := if inForce s then min s.workingCap s.curtailCap else s.workingCap

/-- Site headroom S (R115). -/
def siteHeadroom (s : State) : Nat :=
  match s.load.state with
  | .fresh => effectiveCap s - s.load.site
  | .stale => min s.fallbackCap (effectiveCap s)

/-- Feeder headroom F_k (R115). -/
def feederHeadroom (s : State) (k : Fin 4) : Nat :=
  match s.load.state with
  | .fresh => s.windows[k].cap - s.load.feeders[k]
  | .stale => s.windows[k].cap

def Window.holds (w : Window) (b : Fin 32) : Bool := decide (w.base ≤ b.val) && decide (b.val ≤ w.limit)

/-- The feeder of a bay: the lowest-numbered feeder whose window holds it, or none (R109). -/
def feederOf (windows : Vector Window 4) (b : Fin 32) : Option (Fin 4) :=
  (List.finRange 4).find? fun k => windows[k].holds b

/-! ### Caps -/

/-- SET_CEILING, once (R101, R102). -/
def setCeiling (value : Half) (s : State) : State :=
  if s.ceiling = 0 then
    let c := clamp 1 20000 value.toNat
    answer .ok (be16 c) { s with ceiling := c, workingCap := c }
  else refuse .writeOnce s

def execSetCeiling (value : Half) (s : State) : Host.Outcome State Fault Refusal := .next (setCeiling value s)

/-- SET_WORKING_CAP (R103). -/
def setWorkingCap (value : Half) (s : State) : State :=
  let c := min value.toNat s.ceiling
  answer .ok (be16 c) { s with workingCap := c }

def execSetWorkingCap (value : Half) (s : State) : Host.Outcome State Fault Refusal := .next (setWorkingCap value s)

/-- SET_CURTAIL_CAP (R104). -/
def setCurtailCap (value : Half) (s : State) : State :=
  let c := min value.toNat 20000
  answer .ok (be16 c) { s with curtailCap := c }

def execSetCurtailCap (value : Half) (s : State) : Host.Outcome State Fault Refusal := .next (setCurtailCap value s)

/-- SET_FALLBACK_CAP (R106). -/
def setFallbackCap (value : Half) (s : State) : State :=
  let c := min value.toNat s.ceiling
  answer .ok (be16 c) { s with fallbackCap := c }

def execSetFallbackCap (value : Half) (s : State) : Host.Outcome State Fault Refusal := .next (setFallbackCap value s)

/-! ### Feeder windows -/

/-- SET_FEEDER: base, limit and cap written together, each clamped (R108). -/
def setFeeder (feeder base limit : Byte) (cap : Half) (s : State) : State :=
  match feederOfByte feeder with
  | none => refuse .badValue s
  | some k =>
    let w : Window := { base := min base.toNat 31, limit := min limit.toNat 31, cap := min cap.toNat 20000 }
    answer .ok ([byteOf w.base, byteOf w.limit] ++ be16 w.cap) { s with windows := s.windows.set k w }

def execSetFeeder (feeder base limit : Byte) (cap : Half) (s : State) : Host.Outcome State Fault Refusal :=
  .next (setFeeder feeder base limit cap s)

/-! ### Load report -/

/-- The load record a report leaves: listed feeders as given, the others 0, age 0, FRESH (R112). -/
def reportedLoad (site : Half) (loads : List Half) : LoadRecord :=
  { site := min site.toNat 20000
    feeders := Vector.ofFn fun k : Fin 4 =>
      match loads[k.val]? with
      | some l => min l.toNat 20000
      | none => 0
    state := .fresh
    age := some 0 }

/-- REPORT_LOAD (R112); a list that is not as long as its count is the BAD_LENGTH of R182. -/
def reportLoad (site : Half) (count : Byte) (loads : List Half) (s : State) : State :=
  if 4 < count.toNat then refuse .badValue s
  else if loads.length ≠ count.toNat then refuse .badLength s
  else answer .ok [] { s with load := reportedLoad site loads }

def execReportLoad (site : Half) (count : Byte) (loads : List Half) (s : State) : Host.Outcome State Fault Refusal :=
  .next (reportLoad site count loads s)

/-- The load record turned STALE (R113). The event is the moment the age reaches the load stale time, so the age is at
least that afterwards (log 6). -/
def LoadRecord.toStale (l : LoadRecord) (staleTime : Nat) : LoadRecord :=
  { l with
    state := .stale
    age := match l.age with
      | none => none
      | some a => some (max a (staleTime * Config.second)) }

/-- The transition from FRESH to STALE, with LOAD_STALE raised; a STALE record has no transition (R113). -/
def loadStaleTransition (s : State) : State :=
  match s.load.state with
  | .stale => s
  | .fresh => raise .loadStale { s with load := s.load.toStale s.tuning.stale }

def execLoadStaleTransition (s : State) : Host.Outcome State Fault Refusal := .next (loadStaleTransition s)

/-- FRESH with an age at or above the load stale time. -/
def loadDue (s : State) : Bool :=
  match s.load.state, s.load.age with
  | .fresh, some a => decide (s.tuning.stale * Config.second ≤ a)
  | .fresh, none => false
  | .stale, _ => false

/-! ### READ_BUDGET -/

/-- The report age field: whole seconds, 65535 when that or more (R185). -/
def ageField (cycles : Nat) : List Byte := be16 (min (secondsDown cycles) 65535)

def windowBytes (w : Window) : List Byte := [byteOf w.base, byteOf w.limit] ++ be16 w.cap

/-- The 51 bytes of READ_BUDGET (R115, section 8.7). -/
def budgetBytes (s : State) : List Byte :=
  be16 s.ceiling ++ be16 s.workingCap ++ be16 s.curtailCap ++ be16 s.fallbackCap ++ be16 (effectiveCap s)
    ++ [boolByte (inForce s)]
    ++ [byteOf s.load.state.code] ++ optPart 2 ageField s.load.age
    ++ be16 s.load.site ++ (List.finRange 4).flatMap (fun k => be16 s.load.feeders[k])
    ++ be16 (siteHeadroom s) ++ (List.finRange 4).flatMap (fun k => be16 (feederHeadroom s k))
    ++ (List.finRange 4).flatMap (fun k => windowBytes s.windows[k])

def execReadBudget (s : State) : Host.Outcome State Fault Refusal := .next (answer .ok (budgetBytes s) s)

end Sys2Proof.Machine
end

