-- ==== Sys2Proof/Machine/Clock.lean ====
section
/-! DEFINITION. Depot clock and attention (spec/09, R190 to R200): the clock, the tuning values, event flags and mask. -/

namespace Sys2Proof.Machine

/-! ### The depot clock (R190 to R193) -/

/-- A completed second of the phase: the count advances and expiry is evaluated, unless it is saturated (R190). -/
def clockAdvance (s : State) : State :=
  if clockMax ≤ s.clock then { s with phase := 0 } else expire { s with clock := s.clock + 1, phase := 0 }

def execClockAdvance (s : State) : Host.Outcome State Fault Refusal := .next (clockAdvance s)

/-- SET_CLOCK: count written, phase restarted, expiry evaluated before the response is prepared (R192). -/
def setClock (clock : Word) (s : State) : State :=
  answer .ok [] (expire { s with clock := clock.toNat, phase := 0 })

def execSetClock (clock : Word) (s : State) : Host.Outcome State Fault Refusal := .next (setClock clock s)

def execReadClock (s : State) : Host.Outcome State Fault Refusal := .next (answer .ok (be32 s.clock) s)

/-! ### Tuning values (R194, R195) -/

/-- The six values, each clamped to its range. -/
def tuningOf (period dead lead stale : Half) (selection band : Byte) : Tuning :=
  { period := clamp 5 60 period.toNat, dead := clamp 30 600 dead.toNat, lead := clamp 600 7200 lead.toNat,
    stale := clamp 5 300 stale.toNat, selection := causeSetOf selection, band := clamp 3 30 band.toNat }

/-- The six values in the layout of the payload. -/
def tuningBytes (t : Tuning) : List Byte :=
  be16 t.period ++ be16 t.dead ++ be16 t.lead ++ be16 t.stale ++ [byteOf t.selection.code, byteOf t.band]

/-- SET_TUNING; a new load stale time acts on the load state at once (R113). -/
def setTuning (t : Tuning) (s : State) : State :=
  let written := { s with tuning := t }
  answer .ok (tuningBytes t) (if loadDue written then loadStaleTransition written else written)

def execSetTuning (period dead lead stale : Half) (selection band : Byte) (s : State) : Host.Outcome State Fault Refusal :=
  .next (setTuning (tuningOf period dead lead stale selection band) s)

/-! ### Event flags and mask (R198 to R200) -/

/-- The 7 bytes of STATUS (R198). -/
def statusBytes (s : State) : List Byte :=
  [s.flags, boolByte (inForce s), boolByte (decide (s.ceiling ≠ 0))] ++ be32 s.clock

def execStatus (s : State) : Host.Outcome State Fault Refusal := .next (answer .ok (statusBytes s) s)

/-- CLEAR_STATUS (R199). -/
def clearStatus (named : Byte) (s : State) : State :=
  let left := s.flags &&& ~~~named
  answer .ok [left] { s with flags := left }

def execClearStatus (flags : Byte) (s : State) : Host.Outcome State Fault Refusal := .next (clearStatus flags s)

/-- SET_ATTN_MASK (R200). -/
def setAttnMask (mask : Byte) (s : State) : State := answer .ok [mask] { s with mask := mask }

def execSetAttnMask (mask : Byte) (s : State) : Host.Outcome State Fault Refusal := .next (setAttnMask mask s)

end Sys2Proof.Machine
end

