-- ==== Sys2Proof/Machine/Orders.lean ====
section
/-! DEFINITION. The order commands (spec/01, R12 to R26). -/

namespace Sys2Proof.Machine

/-! ### Checks shared by OPEN and AMEND -/

/-- The departure window now + 60 s .. now + 604,800 s, formed without wrap-around (R13). -/
def inWindow (s : State) (d : Nat) : Bool := decide (s.clock + 60 ≤ d) && decide (d ≤ s.clock + 604800)

/-- Some slot of a list holds an order departing less than 900 s from `d`. -/
def crowded (s : State) (d : Nat) (slots : List (Fin 48)) : Bool :=
  slots.any fun i => match orderAt s i with
    | some o => decide (distance o.departure d < 900)
    | none => false

/-- The head is fixed and departs later than `d`. -/
def aheadOfFixed (s : State) (b : Fin 32) (d : Nat) : Bool :=
  match headOrder s b with
  | some (_, o) => o.fixed && decide (d < o.departure)
  | none => false

/-! ### OPEN (R13 to R15) -/

/-- The lowest-numbered empty slot (R6). -/
def emptySlot (s : State) : Option (Fin 48) := allSlots.find? fun i => (orderAt s i).isNone

/-- The record of R14, as a QUEUED order; the head change that follows makes a head PLANNED (R15). -/
def newOrder (s : State) (b : Fin 32) (p : Priority) (tag departure : Word) (target : Half) (band options : Byte) : Order :=
  { bay := b, tag := tag, departure := departure.toNat, target := targetOf target
    band := if namedBit options 1 then bandOf band else s.tuning.band
    priority := p, locked := namedBit options 0, state := .queued, started := false, activation := none, energy := 0
    remainder := 0, figures := none, flags := .atOpen false, trip := none, outcome := none }

/-- Creates the order in its slot: consultation, record, learning mark cleared (R65), place in the queue, head change. -/
def createOrder (s : State) (i : Fin 48) (o : Order) : State :=
  let asked := consult s o.tag
  let old := headSlot s o.bay
  let filled := setSlot asked.1 i
    { slotAt asked.1 i with order := some { o with flags := .atOpen asked.2 }, learnMark := false }
  let queued := setQueue filled o.bay (insertByDeparture (departureAt filled) i (queueAt filled o.bay))
  rehead queued o.bay old

/-- OPEN: the checks of R13 in order, then R14 and R15. -/
def openOrder (bay : Byte) (tag departure : Word) (target : Half) (band priority options : Byte) (s : State) : State :=
  match bayOfByte bay, priorityOf priority with
  | some b, some p =>
    if !inWindow s departure.toNat then refuse .badTime s
    else
      match emptySlot s with
      | none => refuse .tableFull s
      | some i =>
        if 3 ≤ (queueAt s b).length then refuse .queueFull s
        else if crowded s departure.toNat (queueAt s b) || aheadOfFixed s b departure.toNat then refuse .conflict s
        else answer .ok (handleBytes s i) (createOrder s i (newOrder s b p tag departure target band options))
  | _, _ => refuse .badValue s

def execOpenOrder (bay : Byte) (tag departure : Word) (target : Half) (band priority options : Byte) (s : State) :
    Host.Outcome State Fault Refusal :=
  .next (openOrder bay tag departure target band priority options s)

/-! ### AMEND (R16 to R19) -/

/-- The AMEND's payload after its handle. -/
structure Changes where
  force : Bool
  departure : Option Nat
  target : Option Int
  band : Option Nat
  priority : Option Priority
  tag : Option Tag
deriving DecidableEq, Repr

/-- The fields a change set names (section 8.7: bit 0 departure, 1 target, 2 band, 3 priority, 4 tag). -/
def changesOf (force changes : Byte) (departure : Word) (target : Half) (band priority : Byte) (tag : Word) : Changes :=
  { force := flagByte force
    departure := if namedBit changes 0 then some departure.toNat else none
    target := if namedBit changes 1 then some (targetOf target) else none
    band := if namedBit changes 2 then some (bandOf band) else none
    priority := if namedBit changes 3 then priorityOf priority else none
    tag := if namedBit changes 4 then some tag else none }

/-- The conflict test of R17 against the other live orders of the bay. -/
def amendConflict (s : State) (i : Fin 48) (o : Order) (d : Nat) : Bool :=
  let others := (queueAt s o.bay).filter fun j => j != i
  let isHead := headSlot s o.bay == some i
  crowded s d others
    || (!isHead && aheadOfFixed s o.bay d)
    || (isHead && o.fixed && others.any fun j => match orderAt s j with
          | some q => decide (q.departure < d)
          | none => false)

/-- The record with each named field written, and the lock cleared by FORCE (R18). -/
def amendedOrder (o : Order) (c : Changes) : Order :=
  { o with
    departure := c.departure.getD o.departure
    target := c.target.getD o.target
    band := c.band.getD o.band
    priority := c.priority.getD o.priority
    tag := c.tag.getD o.tag
    locked := o.locked && !c.force }

/-- A tag change consults the table for the new tag and decides NO_PROFILE (R19). -/
def retag (s : State) (i : Fin 48) (o : Order) : State :=
  let asked := consult s o.tag
  putOrder asked.1 i { o with flags := { o.flags with noProfile := asked.2 } }

/-- Re-sorting the queue after a departure change (R18). -/
def requeue (s : State) (i : Fin 48) (b : Fin 32) : State :=
  let old := headSlot s b
  let others := (queueAt s b).filter fun j => j != i
  rehead (setQueue s b (insertByDeparture (departureAt s) i others)) b old

/-- A successful AMEND (R18, R19). -/
def applyAmend (s : State) (i : Fin 48) (o : Order) (c : Changes) : State :=
  let n := amendedOrder o c
  let written := putOrder s i n
  let tagged := if n.tag ≠ o.tag then retag written i n else written
  if n.departure ≠ o.departure then requeue tagged i o.bay else tagged

/-- The named tag differs and the order has started (check 5 of R16). -/
def tagBarred (o : Order) (c : Changes) : Bool :=
  match c.tag with
  | some t => o.started && t != o.tag
  | none => false

/-- AMEND: the checks of R16 in order. -/
def amendOrder (h : WireHandle) (force changes : Byte) (departure : Word) (target : Half) (band priority : Byte)
    (tag : Word) (s : State) : State :=
  let c := changesOf force changes departure target band priority tag
  if namedBit changes 3 ∧ priorityOf priority = none then refuse .badValue s
  else
    match resolve s h with
    | none => refuse .noOrder s
    | some (i, o) =>
      if !o.live then refuse .closed s
      else if o.locked && !c.force then refuse .locked s
      else if tagBarred o c then refuse .started s
      else
        match c.departure with
        | none => answer .ok [] (applyAmend s i o c)
        | some d =>
          if !inWindow s d then refuse .badTime s
          else if amendConflict s i o d then refuse .conflict s
          else answer .ok [] (applyAmend s i o c)

def execAmend (h : WireHandle) (force changes : Byte) (departure : Word) (target : Half) (band priority : Byte)
    (tag : Word) (s : State) : Host.Outcome State Fault Refusal :=
  .next (amendOrder h force changes departure target band priority tag s)

/-! ### LOCK, UNLOCK, CLOSE, RETIRE (R20 to R22) -/

/-- The shared body of LOCK and UNLOCK (R20). -/
def setLocked (locked : Bool) (h : WireHandle) (s : State) : State :=
  match resolve s h with
  | none => refuse .noOrder s
  | some (i, o) => if !o.live then refuse .closed s else answer .ok [] (putOrder s i { o with locked := locked })

def execLock (h : WireHandle) (s : State) : Host.Outcome State Fault Refusal := .next (setLocked true h s)

def execUnlock (h : WireHandle) (s : State) : Host.Outcome State Fault Refusal := .next (setLocked false h s)

/-- CLOSE (R21). -/
def closeCommand (h : WireHandle) (force : Byte) (s : State) : State :=
  match resolve s h with
  | none => refuse .noOrder s
  | some (i, o) =>
    if !o.live then refuse .closed s
    else if o.locked && !flagByte force then refuse .locked s
    else answer .ok [] (closeOrder (putOrder s i { o with locked := o.locked && !flagByte force }) i .ended)

def execClose (h : WireHandle) (force : Byte) (s : State) : Host.Outcome State Fault Refusal :=
  .next (closeCommand h force s)

/-- RETIRE: the slot is emptied, its generation advances from 255 to 0, the learning mark goes (R22, R4, R65). -/
def retireOrder (h : WireHandle) (s : State) : State :=
  match resolve s h with
  | none => refuse .noOrder s
  | some (i, o) =>
    if o.live then refuse .notClosed s
    else answer .ok [] (setSlot s i { slotAt s i with gen := (slotAt s i).gen + 1, learnMark := false, order := none })

def execRetire (h : WireHandle) (s : State) : Host.Outcome State Fault Refusal := .next (retireOrder h s)

/-! ### LOOKUP (R23, section 8.7) -/

/-- Part 0, 26 bytes. -/
def identityBytes (s : State) (i : Fin 48) (o : Order) : List Byte :=
  handleBytes s i ++ [byteOf o.bay.val] ++ bytes32 o.tag ++ be32 o.departure ++ beInt16 o.target ++ [byteOf o.band,
    byteOf o.priority.code, boolByte o.locked, byteOf o.state.code, byteOf o.state.reasonCode, boolByte o.started,
    byteOf o.flags.code] ++ be32 o.energy ++ be16 o.remainder

def activationBytes (a : Activation) : List Byte :=
  beInt16 a.cabin ++ be16 a.loss ++ be32 a.time ++ [byteOf a.kc, byteOf a.u]

def figureBytes (f : Figures) : List Byte :=
  [byteOf f.wanted.code, byteOf f.demand] ++ be16 f.eNeed ++ be32 f.tNeed ++ beInt32 f.slack ++ be32 f.startAt

/-- Part 1, 28 bytes. -/
def figuresBytes (o : Order) : List Byte := optPart 10 activationBytes o.activation ++ optPart 16 figureBytes o.figures

def tripBytes (r : TripRecord) : List Byte :=
  [byteOf r.first.code, byteOf r.later.code] ++ be32 r.time ++ optPart 2 beInt16 r.cabin

def outcomeBytes (r : OutcomeRecord) : List Byte :=
  [byteOf r.kind.code] ++ be32 r.time ++ optPart 2 beInt16 r.finalCabin ++ be32 r.energy ++ [boolByte r.reachedBand]

/-- Part 2, 24 bytes. -/
def historyBytes (o : Order) : List Byte := optPart 9 tripBytes o.trip ++ optPart 13 outcomeBytes o.outcome

/-- LOOKUP: part above 2, then the handle (R23). -/
def lookupOrder (h : WireHandle) (part : Byte) (s : State) : State :=
  if 2 < part.toNat then refuse .badValue s
  else
    match resolve s h with
    | none => refuse .noOrder s
    | some (i, o) =>
      if part = 0 then answer .ok (identityBytes s i o) s
      else if part = 1 then answer .ok (figuresBytes o) s
      else answer .ok (historyBytes o) s

def execLookup (h : WireHandle) (part : Byte) (s : State) : Host.Outcome State Fault Refusal :=
  .next (lookupOrder h part s)

/-! ### FIND (R24 to R26) -/

/-- Handles of a list of slots. -/
def handlesBytes (s : State) (slots : List (Fin 48)) : List Byte := slots.flatMap (handleBytes s)

/-- FIND by bay (R24). -/
def findByBay (bay : Byte) (s : State) : State :=
  match bayOfByte bay with
  | none => refuse .badValue s
  | some b => answer .ok (byteOf (queueAt s b).length :: handlesBytes s (queueAt s b)) s

def execFindByBay (bay : Byte) (s : State) : Host.Outcome State Fault Refusal := .next (findByBay bay s)

/-- The qualifying slots from the starting slot up, ascending. -/
def qualifying (s : State) (start : Fin 48) (p : Order → Bool) : List (Fin 48) :=
  allSlots.filter fun i => decide (start ≤ i) && match orderAt s i with
    | some o => p o
    | none => false

/-- At most 28 handles, their count and the "more" flag (R25). -/
def pageBytes (s : State) (found : List (Fin 48)) : List Byte :=
  [byteOf (found.take 28).length, boolByte (decide (28 < found.length))] ++ handlesBytes s (found.take 28)

/-- FIND by tag (R25). -/
def findByTag (tag : Word) (start : Byte) (s : State) : State :=
  match slotOfByte start with
  | none => refuse .badValue s
  | some k => answer .ok (pageBytes s (qualifying s k fun o => o.live && o.tag == tag)) s

def execFindByTag (tag : Word) (start : Byte) (s : State) : Host.Outcome State Fault Refusal :=
  .next (findByTag tag start s)

/-- FIND by state (R26). -/
def findByState (code start : Byte) (s : State) : State :=
  match slotOfByte start with
  | none => refuse .badValue s
  | some k =>
    if 6 < code.toNat then refuse .badValue s
    else answer .ok (pageBytes s (qualifying s k fun o => decide (o.state.code = code.toNat))) s

def execFindByState (code start : Byte) (s : State) : Host.Outcome State Fault Refusal :=
  .next (findByState code start s)

end Sys2Proof.Machine
end

