-- ==== Sys2Proof/Machine/Profiles.lean ====
section
/-! DEFINITION. The profile commands (spec/03, R61 to R64). -/

namespace Sys2Proof.Machine

/-- The 11 bytes of PROFILE_READ (R61, section 8.7). -/
def profileBytes (s : State) (p : Profile) : List Byte :=
  bytes32 p.tag ++ [byteOf p.kc, byteOf p.u, byteOf p.samples, boolByte p.pinned,
    byteOf (s.profiles.findIdx fun q => q.tag == p.tag), byteOf (referenceCount s p.tag), byteOf s.profiles.length]

/-- PROFILE_READ (R61). -/
def profileRead (tag : Word) (s : State) : State :=
  match findProfile s tag with
  | none => refuse .noProfile s
  | some p => answer .ok (profileBytes s p) s

def execProfileRead (tag : Word) (s : State) : Host.Outcome State Fault Refusal := .next (profileRead tag s)

/-- The profile a PROFILE_PRESET leaves (R62). -/
def presetProfile (tag : Word) (kc u pin : Byte) : Profile :=
  { tag := tag, kc := clamp 10 250 kc.toNat, u := clamp 5 100 u.toNat, samples := 0, pinned := flagByte pin }

/-- PROFILE_PRESET: overwrite, or create with any victim removed (R62). -/
def profilePreset (tag : Word) (kc u pin : Byte) (s : State) : State :=
  if tag = 0 then refuse .badValue s
  else
    match findProfile s tag with
    | some _ => answer .ok (0 :: bytes32 0) (placeFirst s (presetProfile tag kc u pin))
    | none =>
      match makeRoom s with
      | none => refuse .tableFull s
      | some (t, evicted) => answer .ok (1 :: bytes32 evicted) (placeFirst t (presetProfile tag kc u pin))

def execProfilePreset (tag : Word) (kc u pin : Byte) (s : State) : Host.Outcome State Fault Refusal :=
  .next (profilePreset tag kc u pin s)

/-- PROFILE_DROP (R64). -/
def profileDrop (tag : Word) (s : State) : State :=
  match findProfile s tag with
  | none => refuse .noProfile s
  | some _ =>
    if referenced s tag then refuse .inUse s
    else answer .ok [] { s with profiles := withoutProfile s tag }

def execProfileDrop (tag : Word) (s : State) : Host.Outcome State Fault Refusal := .next (profileDrop tag s)

end Sys2Proof.Machine
end

