-- ==== Sys2Proof/Machine/Demand.lean ====
section
/-! DEFINITION. Demand arithmetic (spec/02, R33 to R53): the figures of one head order, and energy accumulation. -/

namespace Sys2Proof.Machine

/-! ### Inputs -/

/-- A reported capability as the arithmetic counts it (R36). -/
def counted (cap : Nat) : Nat := if cap ≤ 4 then 0 else min cap 120

/-- Mmax: the counted capability of the wanted mode; 0 where it is not used (R36). -/
def fullPower (t : Telemetry) : Wanted → Nat
  | .heat => counted t.heatCap
  | .cool => counted t.coolCap
  | .off => 0
  | .inBand => 0

/-- ΔT: the distance of cabin and target in tenths of a degree (R38). -/
def deltaT (target cabin : Int) : Nat := (target - cabin).natAbs

/-! ### Form and wanted mode (R38 to R40) -/

/-- Maintenance form: HOLDING at the snapshot and within the band plus 5. -/
def maintenanceForm (state : OrderState) (target cabin : Int) (band : Nat) : Bool :=
  state == .holding && decide (deltaT target cabin ≤ band + 5)

/-- The wanted mode of the conditioning form (R39). -/
def conditioningMode (target cabin : Int) (band : Nat) : Wanted :=
  if cabin < target - band then .heat else if cabin > target + band then .cool else .inBand

/-- The maintenance mode (R40). -/
def maintenanceMode (target outdoor : Int) : Wanted :=
  if outdoor < target then .heat else if outdoor > target then .cool else .off

/-! ### Energy, loss and time (R41 to R49) -/

/-- E_need in Wh (R41). -/
def energyNeed (dT kc : Nat) : Nat := ceilDiv (dT * kc) 10

/-- The loss power L in W for a mode (R42). -/
def lossPower (u : Nat) (target outdoor : Int) : Wanted → Nat
  | .heat => u * (target - outdoor).toNat / 10
  | .cool => u * (outdoor - target).toNat / 10
  | .off => 0
  | .inBand => 0

/-- The remaining time in seconds (R43). -/
def remainingTime (departure now : Nat) : Nat := departure - now

/-- P_req in W (R44). -/
def requiredPower (eNeed tRem loss : Nat) : Nat := ceilDiv (eNeed * 3600) tRem + loss

/-- Watts to steps, clamped to 5..Mmax, and 0 when the bay is incapable (R44, R45). -/
def demandSteps (watts mmax : Nat) : Nat := if mmax = 0 then 0 else clamp 5 mmax (ceilDiv watts 100)

/-- t_need in s (R46). -/
def timeNeeded (eNeed mmax loss : Nat) : Nat :=
  if eNeed = 0 then 0
  else if loss < mmax * 100 then min (ceilDiv (eNeed * 3600) (mmax * 100 - loss)) 604800
  else 604800

/-- The start time of an order with telemetry (R48). -/
def startTime (departure tNeed : Nat) : Nat := departure - tNeed - 300

/-- Slack is held as a signed 32-bit figure (R49). -/
def heldSlack (slack : Int) : Int := min slack 2147483647

/-! ### One evaluation (R34, R51) -/

/-- What an evaluation reads. -/
structure EvalInput where
  now : Nat
  state : OrderState
  departure : Nat
  target : Int
  band : Nat
  kc : Nat
  u : Nat
  tele : Option Telemetry
  lead : Nat
deriving DecidableEq, Repr

/-- What an evaluation hands on (R51). -/
structure Eval where
  maintenance : Bool
  wanted : Wanted
  demand : Nat
  mmax : Nat
  eNeed : Nat
  loss : Nat
  tNeed : Nat
  startAt : Nat
  slack : Int
  shortfall : Bool
  kc : Nat
  u : Nat
  cabin : Option Int
deriving DecidableEq, Repr

/-- Evaluation without telemetry (R50). -/
def evalBlind (x : EvalInput) : Eval :=
  { maintenance := false, wanted := .off, demand := 0, mmax := 0, eNeed := 0, loss := 0, tNeed := 0,
    startAt := x.departure - x.lead, slack := heldSlack (remainingTime x.departure x.now), shortfall := false,
    kc := x.kc, u := x.u, cabin := none }

/-- Evaluation in maintenance form (R40, R42, R45 to R49). -/
def evalMaintenance (x : EvalInput) (t : Telemetry) : Eval :=
  let mode := maintenanceMode x.target t.outdoor
  let loss := lossPower x.u x.target t.outdoor mode
  let mmax := fullPower t mode
  let idle := loss = 0
  { maintenance := true
    wanted := if idle then .off else mode
    demand := if idle then 0 else demandSteps loss mmax
    mmax := if idle then 0 else mmax
    eNeed := 0
    loss := loss
    tNeed := 0
    startAt := startTime x.departure 0
    slack := heldSlack (remainingTime x.departure x.now)
    shortfall := !decide idle && decide (mmax * 100 < loss)
    kc := x.kc, u := x.u, cabin := some t.cabin }

/-- Evaluation of an order found IN_BAND (R39). -/
def evalInBand (x : EvalInput) (t : Telemetry) : Eval :=
  { maintenance := false
    wanted := .inBand
    demand := 0
    mmax := 0
    eNeed := 0
    loss := lossPower x.u x.target t.outdoor (maintenanceMode x.target t.outdoor)
    tNeed := 0
    startAt := startTime x.departure 0
    slack := heldSlack (remainingTime x.departure x.now)
    shortfall := false
    kc := x.kc, u := x.u, cabin := some t.cabin }

/-- Evaluation in conditioning form with wanted mode HEAT or COOL (R41 to R49). -/
def evalConditioning (x : EvalInput) (t : Telemetry) (mode : Wanted) : Eval :=
  let eNeed := energyNeed (deltaT x.target t.cabin) x.kc
  let loss := lossPower x.u x.target t.outdoor mode
  let tRem := remainingTime x.departure x.now
  let mmax := fullPower t mode
  let tNeed := timeNeeded eNeed mmax loss
  { maintenance := false
    wanted := mode
    demand := demandSteps (requiredPower eNeed tRem loss) mmax
    mmax := mmax
    eNeed := eNeed
    loss := loss
    tNeed := tNeed
    startAt := startTime x.departure tNeed
    slack := heldSlack ((tRem : Int) - tNeed)
    shortfall := decide (mmax * 100 ≤ loss) || decide (tRem < tNeed)
    kc := x.kc, u := x.u, cabin := some t.cabin }

/-- The figures of one head order (R34 to R50). -/
def evaluate (x : EvalInput) : Eval :=
  match x.tele with
  | none => evalBlind x
  | some t =>
    if maintenanceForm x.state x.target t.cabin x.band then evalMaintenance x t
    else
      match conditioningMode x.target t.cabin x.band with
      | .inBand => evalInBand x t
      | .heat => evalConditioning x t .heat
      | .cool => evalConditioning x t .cool
      | .off => evalInBand x t

/-- The last figures written from an evaluation (R51). -/
def Eval.figures (e : Eval) : Figures :=
  { wanted := e.wanted, demand := e.demand, eNeed := e.eNeed, tNeed := e.tNeed, slack := e.slack,
    startAt := e.startAt }

/-! ### Energy accumulation (R29, R52 to R54) -/

/-- Δt: from the previous stamp to now, clamped to 0..30 s; 0 when there is no previous stamp (R53). -/
def energyInterval (now : Nat) : Option Nat → Nat
  | none => 0
  | some prev => min (now - prev) 30

/-- The addition of R52, energy delivered saturating at 4,294,967,295 Wh (R54). -/
def addEnergy (o : Order) (power dt : Nat) : Order :=
  let ws := o.remainder + power * dt
  { o with energy := min (o.energy + ws / 3600) 4294967295, remainder := ws % 3600 }

end Sys2Proof.Machine
end

