-- ==== Sys2Proof/Machine/Allocation.lean ====
section
/-! DEFINITION. Allocation passes (spec/04, R72 to R100) with the learning of Kc at a publish (R65 to R68) and the
mode reversal guard (R168): snapshot, requests, eligibility, ranking, committed budgeting, publish. -/

namespace Sys2Proof.Machine

/-! ### The snapshot (R77, R78) -/

/-- The Kc and U of R37. -/
def chosenFigures (s : State) (o : Order) : Nat × Nat :=
  match o.started, o.activation with
  | true, some a => (a.kc, a.u)
  | _, _ =>
    match findProfile s o.tag with
    | some p => (p.kc, p.u)
    | none => (45, 20)

/-- Heads a pass evaluates: PLANNED, ACTIVE, HOLDING or PAUSED (R78). -/
def OrderState.evaluated : OrderState → Bool
  | .planned => true
  | .active => true
  | .holding => true
  | .paused _ => true
  | .queued => false
  | .tripped => false
  | .closed => false

def snapHead (s : State) (b : Fin 32) : Option SnapHead :=
  match headOrder s b with
  | none => none
  | some (i, o) =>
    if o.state.evaluated then
      some
        { slot := i, gen := (slotAt s i).gen, state := o.state, bay := b, tag := o.tag, departure := o.departure,
          target := o.target, band := o.band, priority := o.priority, started := o.started,
          activation := o.activation, kc := (chosenFigures s o).1, u := (chosenFigures s o).2 }
    else none

def snapBay (s : State) (b : Fin 32) : SnapBay :=
  let x := bayAt s b
  { link := x.link, tele := x.tele, stamp := x.stamp, appliedMode := x.applied.mode, appliedSteps := x.applied.steps,
    pendingMode := x.pending.mode, pendingSteps := x.pending.steps, overdraw := x.overdraw,
    resting := x.reversal.map fun r => r.mode, feeder := feederOf s.windows b,
    head := (headSlot s b).map fun i => (i, (slotAt s i).gen) }

/-- The snapshot, taken whole (R77). -/
def takeSnapshot (s : State) : Snapshot :=
  { now := s.clock
    bays := Vector.ofFn fun b => snapBay s b
    hold := s.hold.isSome
    heads := allBays.filterMap (snapHead s)
    site := siteHeadroom s
    feeders := Vector.ofFn fun k => feederHeadroom s k
    curtailed := inForce s
    selection := s.tuning.selection
    lead := s.tuning.lead }

/-! ### Starting and requesting a pass (R73, R74) -/

/-- A pass starts: snapshot, period timer restarted (R73), every change mark cleared (R94). -/
def startPass (s : State) : State :=
  let marked := mapSlots (fun _ x => { x with changeMark := false }) s
  { marked with pass := some { snap := takeSnapshot s, age := 0 }, periodTimer := s.tuning.period * Config.second }

/-- A pass request (R74). -/
def requestPass (s : State) : State :=
  if s.pass.isSome then { s with passMark := true } else startPass s

/-- The end of a pass (R74). -/
def endPass (s : State) : State :=
  if s.passMark then startPass { s with pass := none, passMark := false } else { s with pass := none }

/-- ALLOCATE_NOW (R75). -/
def execAllocateNow (s : State) : Host.Outcome State Fault Refusal := .next (answer .ok [] (requestPass s))

/-- Expiry of the period timer; the timer stays expired until the next pass start (R73, log 7). -/
def periodExpiry (s : State) : State := requestPass { s with periodTimer := 0 }

def execPeriodTimerExpiry (s : State) : Host.Outcome State Fault Refusal := .next (periodExpiry s)

/-! ### Eligibility (R79 to R83) -/

/-- Fresh telemetry: ONLINE, held, and at most 10 s old; a stamp later than now has age 0 (R80). -/
def freshTele (now : Nat) (x : SnapBay) : Bool :=
  x.link == .online && x.tele.isSome &&
    match x.stamp with
    | some t => decide (now - t ≤ 10)
    | none => false

/-- CABIN_LIMIT against a mode: HEAT above 450, COOL below target − 60 (R81, R156). -/
def cabinLimit (mode : Mode) (cabin target : Int) : Bool :=
  match mode with
  | .heat => decide (450 < cabin)
  | .cool => decide (cabin < target - 60)
  | .off => false

/-- The first fault condition present and not trip-selected (R81). -/
def unselectedFault (sel : CauseSet) (x : SnapBay) (t : Telemetry) (target : Int) : Option PauseReason :=
  if cabinLimit x.appliedMode t.cabin target && !sel.cabinLimit then some .cabinLimit
  else if decide (x.overdraw = 2) && !sel.overdraw then some .overdraw
  else if t.hvac == .fault && !sel.hvacFault then some .hvacFault
  else none

/-- ACTIVE or HOLDING (R83). -/
def runningState (state : OrderState) (target cabin : Int) (band : Nat) : OrderState :=
  let allowed := if state = .holding then band + 5 else band
  if deltaT target cabin ≤ allowed then .holding else .active

/-- The evaluation of a head on the snapshot (R34). -/
def evalHead (snap : Snapshot) (h : SnapHead) : Eval :=
  evaluate
    { now := snap.now, state := h.state, departure := h.departure, target := h.target, band := h.band, kc := h.kc,
      u := h.u, tele := snap.bays[h.bay].tele, lead := snap.lead }

/-- Checks 4 to 10 of R79, for a bay with telemetry. -/
def checksWithTele (snap : Snapshot) (h : SnapHead) (e : Eval) (t : Telemetry) : OrderState :=
  let x := snap.bays[h.bay]
  if t.connector = .unplugged then .paused .absent
  else if h.tag ≠ 0 ∧ t.tag ≠ h.tag then .paused .wrongVehicle
  else
    match unselectedFault snap.selection x t h.target with
    | some r => .paused r
    | none =>
      if x.feeder.isNone then .paused .unmapped
      else if snap.curtailed ∧ h.priority ≠ .urgent then .paused .curtail
      else if (e.wanted = .heat ∨ e.wanted = .cool) ∧ e.mmax = 0 then .paused .incapable
      else runningState h.state h.target t.cabin h.band

/-- The new state of an evaluated head: the first check of R79 that holds. -/
def newState (snap : Snapshot) (h : SnapHead) (e : Eval) : OrderState :=
  if !h.started ∧ snap.now < e.startAt then .planned
  else if snap.hold then .paused .linkReset
  else if !freshTele snap.now snap.bays[h.bay] then .paused .stale
  else
    match snap.bays[h.bay].tele with
    | none => .paused .stale
    | some t => checksWithTele snap h e t

/-! ### The mode reversal guard (R86, R168) -/

def Wanted.toMode : Wanted → Mode
  | .heat => .heat
  | .cool => .cool
  | .off => .off
  | .inBand => .off

def Mode.opposite : Mode → Mode
  | .heat => .cool
  | .cool => .heat
  | .off => .off

/-- Whether the guard bars a mode on a bay's snapshot. -/
def guardBars (mode : Mode) (x : SnapBay) : Bool :=
  mode != .off &&
    (x.appliedMode == mode.opposite || x.pendingMode == mode.opposite || x.resting == some mode.opposite)

/-! ### Ranking and committed budgeting (R87 to R91) -/

/-- A ranked order's share of the headroom. -/
structure Share where
  bay : Fin 32
  priority : Priority
  slack : Int
  demand : Nat
  /-- held charge of the bay -/
  held : Nat
  feeder : Fin 4
  /-- new steps -/
  new : Nat
deriving DecidableEq, Repr

/-- Budgets not yet spent. -/
structure Purse where
  site : Nat
  feeders : Vector Nat 4
deriving DecidableEq, Repr

/-- The rank of R87: priority, URGENT first; slack, lowest first; bay number, lowest first. -/
def Share.before (a b : Share) : Bool :=
  if a.priority ≠ b.priority then decide (b.priority.code < a.priority.code)
  else if a.slack ≠ b.slack then decide (a.slack < b.slack)
  else decide (a.bay < b.bay)

def insertByRank (a : Share) : List Share → List Share
  | [] => [a]
  | b :: rest => if b.before a then b :: insertByRank a rest else a :: b :: rest

def rank : List Share → List Share
  | [] => []
  | a :: rest => insertByRank a (rank rest)

/-- The held charge: the larger of applied and pending steps (R88). -/
def heldCharge (x : SnapBay) : Nat := max x.appliedSteps x.pendingSteps

/-- Sum of the charges over all bays. -/
def siteSum (snap : Snapshot) : Nat := (allBays.map fun b => heldCharge snap.bays[b]).sum

/-- Sum of the charges over a feeder's bays. -/
def feederSum (snap : Snapshot) (k : Fin 4) : Nat :=
  (allBays.map fun b => if snap.bays[b].feeder = some k then heldCharge snap.bays[b] else 0).sum

/-- The remaining budgets before the rounds (R88). -/
def openingPurse (snap : Snapshot) : Purse :=
  { site := snap.site - siteSum snap, feeders := Vector.ofFn fun k => snap.feeders[k] - feederSum snap k }

def Purse.spend (p : Purse) (k : Fin 4) (cost : Nat) : Purse :=
  { site := p.site - cost, feeders := p.feeders.set k (p.feeders[k] - cost) }

/-- Round 1: a first grant of 5 steps where the budget allows (R89). -/
def roundOne (p : Purse) (a : Share) : Purse × Share :=
  let cost := 5 - a.held
  if cost ≤ p.site ∧ cost ≤ p.feeders[a.feeder] then (p.spend a.feeder cost, { a with new := 5 })
  else (p, { a with new := 0 })

/-- Round 2: raised toward the demand (R90). -/
def roundTwo (p : Purse) (a : Share) : Purse × Share :=
  if a.new < 5 then (p, a)
  else
    let free := a.held - a.new
    let extra := min (a.demand - a.new) (min (p.site + free) (p.feeders[a.feeder] + free))
    let cost := max a.held (a.new + extra) - max a.held a.new
    (p.spend a.feeder cost, { a with new := a.new + extra })

/-- One round over the ranked orders. -/
def runRound (f : Purse → Share → Purse × Share) (p : Purse) : List Share → Purse × List Share
  | [] => (p, [])
  | a :: rest =>
    let one := f p a
    let tail := runRound f one.1 rest
    (tail.1, one.2 :: tail.2)

/-- Both rounds, in rank order. -/
def distribute (snap : Snapshot) (shares : List Share) : List Share :=
  let first := runRound roundOne (openingPurse snap) (rank shares)
  (runRound roundTwo first.1 first.2).2

/-! ### The results of a pass (R78, R85, R86, R91) -/

/-- A head after its checks. -/
structure Judged where
  head : SnapHead
  eval : Eval
  newState : OrderState
  reversing : Bool
deriving DecidableEq, Repr

def OrderState.eligible : OrderState → Bool
  | .active => true
  | .holding => true
  | .queued => false
  | .planned => false
  | .paused _ => false
  | .tripped => false
  | .closed => false

def judgeHead (snap : Snapshot) (h : SnapHead) : Judged :=
  let e := evalHead snap h
  let n := newState snap h e
  { head := h, eval := e, newState := n
    reversing := n.eligible && decide (5 ≤ e.demand) && guardBars e.wanted.toMode snap.bays[h.bay] }

/-- The share of a head that takes part in the distribution (R87). -/
def Judged.share (snap : Snapshot) (j : Judged) : Option Share :=
  if j.newState.eligible && decide (5 ≤ j.eval.demand) && !j.reversing then
    (snap.bays[j.head.bay].feeder).map fun k =>
      { bay := j.head.bay, priority := j.head.priority, slack := j.eval.slack, demand := j.eval.demand,
        held := heldCharge snap.bays[j.head.bay], feeder := k, new := 0 }
  else none

/-- One result of a pass. -/
structure PassResult where
  head : SnapHead
  eval : Eval
  newState : OrderState
  reversing : Bool
  starved : Bool
  mode : Mode
  steps : Nat
deriving DecidableEq, Repr

/-- The grant of a result (R91) and its STARVED decision (R89). -/
def Judged.result (shares : List Share) (j : Judged) : PassResult :=
  match shares.find? fun a => a.bay == j.head.bay with
  | none =>
    { head := j.head, eval := j.eval, newState := j.newState, reversing := j.reversing, starved := false,
      mode := .off, steps := 0 }
  | some a =>
    if 5 ≤ a.new then
      { head := j.head, eval := j.eval, newState := j.newState, reversing := j.reversing, starved := false,
        mode := j.eval.wanted.toMode, steps := a.new }
    else
      { head := j.head, eval := j.eval, newState := j.newState, reversing := j.reversing, starved := true,
        mode := .off, steps := 0 }

/-- The results of a pass in ascending bay order. -/
def passResults (snap : Snapshot) : List PassResult :=
  let judged := snap.heads.map (judgeHead snap)
  judged.map (Judged.result (distribute snap (judged.filterMap (Judged.share snap))))

/-! ### Learning (R65 to R68) -/

/-- Kc_obs, or none when the sample is rejected (R67). -/
def observedKc (loss activeTime dT energy : Nat) : Option Nat :=
  let eLoss := loss * activeTime / 3600
  if energy ≤ eLoss then none
  else some (clamp 10 250 (((energy - eLoss) * 20 + dT) / (2 * dT)))

/-- The profile after a successful update (R68). -/
def Profile.learn (p : Profile) (obs : Nat) : Profile :=
  { p with
    kc := if p.samples = 0 then obs else (3 * p.kc + obs + 2) / 4
    samples := min 255 (p.samples + 1) }

/-- The updated profile of a learning point's order, none when no sample is taken (R66) or it is rejected (R67). -/
def learnedProfile (s : State) (o : Order) (now : Nat) (cabin : Option Int) : Option Profile :=
  match findProfile s o.tag, o.activation, cabin with
  | some p, some a, some c =>
    let dT := (c - a.cabin).natAbs
    if p.pinned = false ∧ 600 ≤ now - a.time ∧ 30 ≤ dT then
      (observedKc a.loss (now - a.time) dT o.energy).map p.learn
    else none
  | some _, some _, none => none
  | some _, none, _ => none
  | none, _, _ => none

/-! ### Publish (R93 to R98) -/

/-- The checks of R94. -/
def resultApplies (s : State) (r : PassResult) : Bool :=
  let x := slotAt s r.head.slot
  x.gen == r.head.gen && headSlot s r.head.bay == some r.head.slot && !x.changeMark &&
    match x.order with
    | some o => o.state == r.head.state
    | none => false

/-- Whether a result carries the start (R84). -/
def PassResult.starts (r : PassResult) : Bool := !r.head.started && r.newState.eligible

/-- The activation record filled from an evaluation (R51). -/
def PassResult.activation (r : PassResult) (now : Nat) : Activation :=
  { cabin := r.eval.cabin.getD 0, loss := r.eval.loss, time := now, kc := r.eval.kc, u := r.eval.u }

/-- The order record after an applied result, the learning aside (R95). -/
def PassResult.write (r : PassResult) (now : Nat) (o : Order) : Order :=
  { o with
    state := r.newState
    figures := some r.eval.figures
    flags := { o.flags with shortfall := r.eval.shortfall, starved := r.starved, reversing := r.reversing }
    started := o.started || r.starts
    activation := if r.starts then some (r.activation now) else o.activation }

/-- The learning point of an applied result (R65): the mark is set, and a sample may update the profile and set LEARNED. -/
def learningPoint (s : State) (now : Nat) (r : PassResult) (o : Order) : State :=
  let i := r.head.slot
  let marked := setSlot s i { slotAt s i with learnMark := true }
  match learnedProfile s o now r.eval.cabin with
  | none => marked
  | some p => putOrder (placeFirst marked p) i { o with flags := { o.flags with learned := true } }

/-- Applying one result (R95). -/
def applyResult (s : State) (now : Nat) (r : PassResult) : State :=
  match orderAt s r.head.slot with
  | none => s
  | some o =>
    let o' := r.write now o
    let written := putOrder s r.head.slot o'
    if r.head.state = .active ∧ r.newState = .holding ∧ (slotAt s r.head.slot).learnMark = false then
      learningPoint written now r o'
    else written

/-- Part 1 of R93: the results one by one, and those applied. -/
def applyResults (now : Nat) (s : State) : List PassResult → State × List PassResult
  | [] => (s, [])
  | r :: rest =>
    if resultApplies s r then
      let tail := applyResults now (applyResult s now r) rest
      (tail.1, r :: tail.2)
    else applyResults now s rest

/-- A bay without an applied result (R97). -/
def settleBay (s : State) (b : Fin 32) : State :=
  match headOrder s b with
  | none => zeroPending s b
  | some (_, o) => if o.running then s else zeroPending s b

/-- Part 2 of R93 for one bay (R96, R97). -/
def publishGrant (applied : List PassResult) (s : State) (b : Fin 32) : State :=
  match applied.find? fun r => r.head.bay == b with
  | some r => writePending s b r.mode r.steps
  | none => settleBay s b

/-- The publish of a pass in flight (R93), and the end of the pass; with none in flight there is no publish. DESIGN CHOICE,
log 24: the evaluations, ranking, budgets and results of R72 are computed here from the snapshot, not held in the state. -/
def publishPass (s : State) : State :=
  match s.pass with
  | none => s
  | some p =>
    let done := applyResults p.snap.now s (passResults p.snap)
    let granted := allBays.foldl (publishGrant done.2) done.1
    let flagged := if done.2.any fun r => r.starved then raise .starved granted else granted
    endPass flagged

def execPublish (s : State) : Host.Outcome State Fault Refusal := .next (publishPass s)

end Sys2Proof.Machine
end

