-- ==== Sys2Proof/Machine/Protection.lean ====
section
/-! DEFINITION. The protection unit (spec/07, R148 to R170): trips, REARM, curtailment, expiry of reversal timers. -/

namespace Sys2Proof.Machine

/-! ### Trips (R156 to R160) -/

/-- The trip record of a new trip (R159). -/
def newTrip (s : State) (b : Fin 32) (c : Cause) : TripRecord :=
  { first := c, later := .empty, time := s.clock, cabin := cabinAt s b }

/-- A selected cause trips the head of a bay (R159). -/
def trip (s : State) (b : Fin 32) (i : Fin 48) (o : Order) (c : Cause) : State :=
  let tripped := setSlot s i { slotAt s i with
    order := some { o with
      state := .tripped
      flags := { o.flags with reversing := false }
      trip := some (newTrip s b c) }
    changeMark := true }
  raise .orderTripped (zeroPending tripped b)

/-- A further cause in a trip record (R160). -/
def TripRecord.addLater (r : TripRecord) (c : Cause) : TripRecord :=
  if r.first = c then r else { r with later := r.later.insert c }

/-- A selected cause found while the head is TRIPPED (R160). -/
def laterCause (s : State) (i : Fin 48) (o : Order) (c : Cause) : State :=
  putOrder s i { o with trip := o.trip.map fun r => r.addLater c }

/-- A cause found at a bay, handled on the trip selection and the state of the head (R158). -/
def handleCause (b : Fin 32) (s : State) (c : Cause) : State :=
  match headOrder s b with
  | none => s
  | some (i, o) =>
    if !s.tuning.selection.has c then s
    else if o.state = .tripped then laterCause s i o c
    else if o.state.evaluated then trip s b i o c
    else s

/-- The overdraw count after an arrival (R155). -/
def overdrawAfter (x : Bay) (power : Nat) : Nat :=
  if x.applied.steps * 100 + 300 < power then min 2 (x.overdraw + 1) else 0

/-- CABIN_LIMIT at an arrival: the COOL case needs a live head (R156). -/
def cabinLimitFound (s : State) (b : Fin 32) (t : Telemetry) : Bool :=
  match (bayAt s b).applied.mode with
  | .heat => decide (450 < t.cabin)
  | .cool =>
    match headOrder s b with
    | some (_, o) => o.live && decide (t.cabin < o.target - 60)
    | none => false
  | .off => false

/-- The causes an arrival finds, in the order of R156. -/
def causesFound (s : State) (b : Fin 32) (t : Telemetry) : List Cause :=
  (if cabinLimitFound s b t then [.cabinLimit] else [])
    ++ (if (bayAt s b).overdraw = 2 then [.overdraw] else [])
    ++ (if t.hvac = .fault then [.hvacFault] else [])

/-- The arrival as the protection unit takes it: overdraw count, then the causes (R155, R156). -/
def protectArrival (s : State) (b : Fin 32) (t : Telemetry) : State :=
  let x := bayAt s b
  let countedBay := setBay s b { x with overdraw := overdrawAfter x t.power }
  (causesFound countedBay b t).foldl (handleCause b) countedBay

/-! ### REARM (R163 to R165) -/

/-- Whether a recorded cause is present for REARM (R164). -/
def causePresent (s : State) (o : Order) (c : Cause) : Bool :=
  let x := bayAt s o.bay
  match c with
  | .cabinLimit => match x.tele with
      | some t => decide (450 < t.cabin) || decide (t.cabin < o.target - 60)
      | none => false
  | .overdraw => match x.tele with
      | some t => decide (300 < t.power)
      | none => false
  | .hvacFault => match x.tele with
      | some t => t.hvac == .fault
      | none => false
  | .silent => x.link != .online

/-- Whether a cause stands in a trip record. -/
def TripRecord.records (r : TripRecord) (c : Cause) : Bool := decide (r.first = c) || r.later.has c

def allCauses : List Cause := [.cabinLimit, .overdraw, .hvacFault, .silent]

/-- Check 3 of R163. -/
def stillFaulted (s : State) (o : Order) : Bool :=
  match o.trip with
  | none => false
  | some r => allCauses.any fun c => r.records c && causePresent s o c

/-- REARM (R163, R165). -/
def rearmOrder (h : WireHandle) (s : State) : State :=
  match resolve s h with
  | none => refuse .noOrder s
  | some (i, o) =>
    if o.state ≠ .tripped then refuse .notTripped s
    else if stillFaulted s o then refuse .stillFaulted s
    else answer .ok [] (requestPass (putOrder s i { o with state := .planned }))

def execRearm (h : WireHandle) (s : State) : Host.Outcome State Fault Refusal := .next (rearmOrder h s)

/-! ### The ALLSTOP request (R127) -/

/-- A bay link frame: address, kind, payload, CRC-8 of all bytes before it (R118, R186). -/
def linkFrame (bytes : List Byte) : List Byte := bytes ++ [crc8 bytes]

/-- The ALLSTOP frame (R189). -/
def allstopBytes (list : Word) : List Byte := linkFrame ([0x3F, 0x03] ++ bytes32 list)

/-- No hold, no exchange, and no ALLSTOP being sent. -/
def lineFree (s : State) : Bool := s.hold.isNone && s.exchange.isNone && s.sending.isNone

/-- A waiting ALLSTOP begins on a free line, and its request is cleared (R127, R189). -/
def beginAllstop (s : State) : State :=
  match s.allstop with
  | none => s
  | some list =>
    if lineFree s then { s with allstop := none, allstopFrame := allstopBytes list, sending := some 0 } else s

/-- The opening GRANT of a cycle, begun by an expiry with which the present moment coincides, is taken back: no bit of it is
on the line, and the walk waits at bay 0 for the ALLSTOP (R123, log 22). -/
def yieldOpening (s : State) : State :=
  match s.exchange with
  | none => s
  | some x => if x.opening && x.age == 0 then { s with cycle := some 0, exchange := none, grantFrame := [] } else s

/-- The waiting list with a new one joined to it. -/
def joinList (list : Word) : Option Word → Word
  | none => list
  | some w => w ||| list

/-- A request: an empty list is not sent, one taken in a hold is discarded, one that meets a waiting list is joined
to it; on a quiet line it is sent at once, and otherwise it waits for the line, for that of an ALLSTOP being sent too (R127). -/
def requestAllstop (list : Word) (s : State) : State :=
  if list = 0 then s
  else if s.hold.isSome then s
  else beginAllstop { yieldOpening s with allstop := some (joinList list s.allstop) }

/-! ### Curtailment (R148 to R153) -/

/-- A head that an arrival pauses: ACTIVE or HOLDING and not URGENT (R151). -/
def arrivalPauses (s : State) (b : Fin 32) : Bool :=
  match headOrder s b with
  | some (_, o) => o.running && o.priority != .urgent
  | none => false

/-- A head that runs on through curtailment: ACTIVE or HOLDING of URGENT priority (R152). -/
def runsThrough (s : State) (b : Fin 32) : Bool :=
  match headOrder s b with
  | some (_, o) => o.running && o.priority == .urgent
  | none => false

/-- The bay list with bit b set for each bay of a list (R184). -/
def bayList (p : Fin 32 → Bool) : Word :=
  allBays.foldl (fun w b => if p b then w ||| BitVec.twoPow 32 b.val else w) 0

/-- The bays of R152, judged before the pauses: those paused, and those whose applied grant is above 0 without an
URGENT running head. -/
def allstopList (s : State) : Word :=
  bayList fun b => arrivalPauses s b || (decide (0 < (bayAt s b).applied.steps) && !runsThrough s b)

/-- Step 1 of R151 for one bay. -/
def pauseHead (s : State) (b : Fin 32) : State :=
  match headOrder s b with
  | none => s
  | some (i, o) => putOrder s i { o with state := .paused .curtail }

/-- Steps 1 and 2 of R151 for one bay. -/
def curtailBay (s : State) (b : Fin 32) : State :=
  if arrivalPauses s b then zeroPending (pauseHead s b) b else s

/-- Step 4 of R151: a pass in flight is abandoned and one new pass starts at once (R99). -/
def arrivalPass (s : State) : State :=
  if s.pass.isSome then startPass { s with pass := none, passMark := false } else startPass s

/-- A curtailment arrival (R151). -/
def curtailArrival (s : State) : State :=
  raise .curtailChange (arrivalPass (requestAllstop (allstopList s) (allBays.foldl curtailBay s)))

/-- A curtailment release (R153). -/
def curtailRelease (s : State) : State := raise .curtailChange (requestPass s)

/-- Judges a change of either source against the in-force state before it (R148). -/
def judgeCurtailment (before : Bool) (s : State) : State :=
  if before = inForce s then s else if inForce s then curtailArrival s else curtailRelease s

/-- Crystal cycles for which a change of the CURT line must persist to be seen: 1 ms (R149). -/
def curtTime : Nat := 16000

/-- The line changes to a level, or stays at it (R149). -/
def CurtFilter.drive (f : CurtFilter) (line : Bool) : CurtFilter :=
  if line = f.line then f else { f with line := line, since := 0 }

/-- The filtered level becomes the level given; a change of it means that the line has stood there for 1 ms (R149, log 4). -/
def CurtFilter.settle (f : CurtFilter) (level : Bool) : CurtFilter := if level = f.level then f else .steady level

/-- The filter counts while the line differs from the filtered level (R191). -/
def CurtFilter.count (f : CurtFilter) : CurtFilter :=
  if f.line = f.level then f else { f with since := f.since + Config.tickCycles }

/-- The line has stood at another level for 1 ms (R149). -/
def CurtFilter.due (f : CurtFilter) : Bool := f.line != f.level && decide (curtTime ≤ f.since)

/-- A change of the filtered CURT level is an event of the PU; while a reset is in progress the filter runs on and the PU
takes no line event (R149). -/
def curtLineChange (level : Bool) (s : State) : State :=
  let filtered := { s with curt := s.curt.settle level }
  if s.pins.held then filtered else judgeCurtailment (inForce s) { filtered with lineState := level }

def execCurtLineChange (level : Bool) (s : State) : Host.Outcome State Fault Refusal := .next (curtLineChange level s)

/-- The response of CURTAIL: software flag, line state, in force (R150). -/
def curtailBytes (s : State) : List Byte := [boolByte s.softCurtail, boolByte s.lineState, boolByte (inForce s)]

/-- CURTAIL (R150). -/
def curtailCommand (value : Byte) (s : State) : State :=
  let t := judgeCurtailment (inForce s) { s with softCurtail := flagByte value }
  answer .ok (curtailBytes t) t

def execCurtail (value : Byte) (s : State) : Host.Outcome State Fault Refusal := .next (curtailCommand value s)

/-- The sample of the filtered line at the end of a reset (R149); the software flag is clear by then (R170). -/
def sampleLine (s : State) : State :=
  if s.curt.level then curtailArrival { s with lineState := true } else { s with lineState := false }

/-! ### Reversal timers (R167) -/

/-- Expiry: the timer stops and its remembered mode is cleared. -/
def reversalExpiry (b : Fin 32) (s : State) : State := setBay s b { bayAt s b with reversal := none }

def execReversalTimerExpiry (bay : Fin 32) (s : State) : Host.Outcome State Fault Refusal := .next (reversalExpiry bay s)

end Sys2Proof.Machine
end

