-- ==== Sys2Proof/Machine/BayLink.lean ====
section
/-! DEFINITION. The bay link controller (spec/06, R117 to R147, and the frames of R186 to R189). -/

namespace Sys2Proof.Machine

/-! ### Durations in crystal cycles -/

/-- The grant lifetime of the part's lapse timer: 10 s (R130). -/
def lapseTime : Nat := 10 * Config.second

/-- A link reset hold: 2 s (R139). -/
def holdTime : Nat := 2 * Config.second

/-- An exchange: a GRANT of 6 characters of 40 µs and a reply window of 4 ms (R124, R125), in cycles of 62.5 ns. -/
def exchangeTime : Nat := 6 * 640 + 64000

/-! ### The GRANT frame (R187) -/

def grantBytes (b : Fin 32) (g : Grant) : List Byte :=
  linkFrame [byteOf b.val, 0x01, byteOf g.seq, byteOf g.mode.code, byteOf g.steps]

/-! ### The poll cycle (R123 to R125) -/

/-- An exchange with a bay begins: its pending grant as it stands is sent (R125). -/
def beginExchange (s : State) (b : Fin 32) : State :=
  let g := (bayAt s b).pending
  { s with
    cycle := some (b.val + 1)
    exchange := some { bay := b, seqSent := g.seq, age := 0, opening := false }
    grantFrame := grantBytes b g }

/-- The first enabled bay at or above a number (R124). -/
def nextEnabled (s : State) (n : Nat) : Option (Fin 32) :=
  allBays.find? fun b => decide (n ≤ b.val) && (bayAt s b).enabled

/-- The walk from a bay number: the next enabled bay is polled, and without one the cycle ends. -/
def walkFrom (s : State) (n : Nat) : State :=
  match nextEnabled s n with
  | some b => beginExchange s b
  | none => { s with cycle := none }

/-- A cycle in progress at number `n`, no exchange open: an ALLSTOP being sent is finished first, and a waiting one goes
before the next GRANT (R123, R127); the walk goes on otherwise, and when it ends with the deferred-cycle mark set a new cycle
begins at once (R123). -/
def goOn (s : State) (n : Nat) : State :=
  if s.sending.isSome || s.allstop.isSome then beginAllstop { s with cycle := some n }
  else
    match nextEnabled s n with
    | some b => beginExchange s b
    | none => if s.deferred then walkFrom { s with deferred := false } 0 else { s with cycle := none }

/-- A cycle begins (R123, R124). -/
def beginCycle (s : State) : State := goOn s 0

/-- Marks the exchange that an expiry of the cycle timer has begun. -/
def openExchange (s : State) : State := { s with exchange := s.exchange.map fun x => { x with opening := true } }

/-- Expiry of the cycle timer (R123). DESIGN CHOICE, log 22: an expiry and an ALLSTOP request fall together when no time
passes between their two steps. Expiry first: the cycle's first exchange is marked as opening, and requestAllstop takes its
GRANT back while no bit of it is on the line. Request first: the ALLSTOP is being sent, and goOn holds the walk until its
end. -/
def cycleExpiry (s : State) : State :=
  let t := { s with cycleTimer := Config.second }
  if s.hold.isSome || s.cycle.isSome then { t with deferred := true } else openExchange (beginCycle t)

def execCycleTimerExpiry (s : State) : Host.Outcome State Fault Refusal := .next (cycleExpiry s)

/-- The row ALLSTOP (log 20): the ALLSTOP being sent has been sent, a request that waits is sent next, and a cycle in progress
then goes on with its next bay (R123, R127). While none is being sent, one that waits for a free line begins; with nothing
waiting, or the line not free, there is nothing to send. -/
def sendAllstop (s : State) : State :=
  if s.sending.isSome then
    let sent := { s with sending := none }
    match s.cycle with
    | none => beginAllstop sent
    | some n => goOn sent n
  else beginAllstop s

def execAllstop (s : State) : Host.Outcome State Fault Refusal := .next (sendAllstop s)

/-! ### Link reset (R139 to R142) -/

/-- Steps 5 and 6 of R139 for one bay. -/
def Bay.linkReset (x : Bay) (dead : Nat) : Bay :=
  let y := x.drop dead
  if y.link = .disabled then y else { y with link := .unseen, misses := 0 }

/-- A link reset hold begins, or begins again; a frame being sent is cut off (R139, R140). -/
def beginHold (s : State) : State :=
  mapBays (fun _ x => x.linkReset s.tuning.dead)
    { s with exchange := none, cycle := none, allstop := none, sending := none, hold := some holdTime }

def execLinkReset (s : State) : Host.Outcome State Fault Refusal := .next (answer .ok [] (beginHold s))

/-- The end of a hold: LINK_RESET_DONE, and a deferred cycle begins (R142); without a hold there is no such event. -/
def holdEnd (s : State) : State :=
  if s.hold.isNone then s
  else
    let t := raise .linkResetDone { s with hold := none }
    if t.deferred then beginCycle { t with deferred := false } else t

def execLinkResetHoldEnd (s : State) : Host.Outcome State Fault Refusal := .next (holdEnd s)

/-! ### Judging a reply (R126, R188) -/

/-- The cause of a miss, in the order of R126; it is not kept (R136). -/
inductive MissCause where
  | missing | short | wrongLength | corrupt | misaddressed
deriving DecidableEq, Repr

inductive ReplyVerdict where
  | miss (cause : MissCause)
  | valid (echo : Nat) (t : Telemetry)
deriving DecidableEq, Repr

/-- The bytes of the characters, or none when one of them is corrupt. -/
def wholeBytes : List RxChar → Option (List Byte)
  | [] => some []
  | .byte b :: rest => (wholeBytes rest).map fun l => b :: l
  | .corrupt :: _ => none

/-- A temperature field, clamped to −400..600 (R134, R188). -/
def temperature (hi lo : Byte) : Int := clampInt (-400) 600 (word16 hi lo).toInt

/-- The last cases of R126 on 18 bytes: CRC, address, kind, codes. -/
def judgeTele (bay : Fin 32) (bytes : List Byte) : ReplyVerdict :=
  match bytes with
  | [address, kind, echo, connector, t3, t2, t1, t0, c1, c0, o1, o0, heat, cool, p1, p0, hvac, crc] =>
    if crc ≠ crc8 [address, kind, echo, connector, t3, t2, t1, t0, c1, c0, o1, o0, heat, cool, p1, p0, hvac] then
      .miss .corrupt
    else if address.toNat ≠ bay.val then .miss .misaddressed
    else if kind ≠ 0x02 then .miss .corrupt
    else if 15 < echo.toNat then .miss .corrupt
    else
      match connectorOf connector, hvacOf hvac with
      | some con, some h =>
        .valid echo.toNat
          { connector := con, tag := word32 t3 t2 t1 t0, cabin := temperature c1 c0, outdoor := temperature o1 o0,
            heatCap := heat.toNat, coolCap := cool.toNat, power := min (word16 p1 p0).toNat 15000, hvac := h }
      | _, _ => .miss .corrupt
  | _ => .miss .wrongLength

/-- The characters collected in a window, judged as one reply (R126). -/
def judgeReply (bay : Fin 32) (chars : List RxChar) : ReplyVerdict :=
  if chars.length = 0 then .miss .missing
  else if chars.length < 18 then .miss .short
  else if 18 < chars.length then .miss .wrongLength
  else
    match wholeBytes chars with
    | none => .miss .corrupt
    | some bytes => judgeTele bay bytes

/-! ### Valid arrivals (R130, R134, R135) -/

/-- The lapse timer after a confirmation of a grant (R130). -/
def confirmedLapse (g : Grant) : Option Nat := if 0 < g.steps then some lapseTime else none

/-- The echo judged against the grants: confirmation, renewal, or neither (R130). -/
def Bay.echo (x : Bay) (dead echo seqSent : Nat) : Bay :=
  if echo = x.pending.seq ∧ echo = seqSent then x.apply dead x.pending (confirmedLapse x.pending)
  else if echo = x.applied.seq ∧ 0 < x.applied.steps then { x with lapse := some lapseTime }
  else x

/-- The bay record after a valid arrival (steps 2 to 5 of R134). DESIGN CHOICE, log 19: R144 speaks of a bay that is disabled
at the close; one disabled and enabled again during its own exchange is judged by its link state at the close, so a valid
reply makes it ONLINE. -/
def Bay.arrive (x : Bay) (dead now echo seqSent : Nat) (t : Telemetry) : Bay :=
  { x.echo dead echo seqSent with
    tele := some t
    stamp := some now
    misses := 0
    link := if x.link = .disabled then .disabled else .online }

/-- Energy is added to a live started head (R29, R52). -/
def accumulate (s : State) (b : Fin 32) (power : Nat) (prev : Option Nat) : State :=
  match headOrder s b with
  | none => s
  | some (i, o) =>
    if o.live && o.started then putOrder s i (addEnergy o power (energyInterval s.clock prev)) else s

/-- An UNPLUGGED report closes a live started head (R30). -/
def testUnplug (s : State) (b : Fin 32) (t : Telemetry) : State :=
  match headOrder s b with
  | none => s
  | some (i, o) =>
    if t.connector = .unplugged ∧ o.live = true ∧ o.started = true then closeOrder s i .unplugged else s

/-- A valid arrival: the record, then the protection unit, then the order manager (R134, R135). -/
def validArrival (s : State) (b : Fin 32) (seqSent echo : Nat) (t : Telemetry) : State :=
  let x := bayAt s b
  let recorded := setBay s b (x.arrive s.tuning.dead s.clock echo seqSent t)
  testUnplug (accumulate (protectArrival recorded b t) b t.power x.stamp) b t

/-! ### Misses (R136, R137, R144) -/

/-- A miss of a bay that is not DISABLED; the third from UNSEEN or ONLINE is the entry into SILENT. DESIGN CHOICE, log 19: a
bay disabled and enabled again during its own exchange is judged by its link state at the close, so its miss counts. -/
def miss (s : State) (b : Fin 32) : State :=
  let x := bayAt s b
  let n := min 3 (x.misses + 1)
  match x.link with
  | .disabled => s
  | .silent => setBay s b { x with misses := n }
  | .unseen | .online =>
    if n = 3 then
      handleCause b (raise .baySilent (setBay s b { x with misses := n, link := .silent })) .silent
    else setBay s b { x with misses := n }

/-! ### The close of a reply window (R125) -/

/-- The exchange closes, its characters are judged as one reply, and the cycle moves on. Outside a reply window the
characters are discarded (R117). -/
def windowClose (chars : List RxChar) (s : State) : State :=
  match s.exchange with
  | none => s
  | some x =>
    let closed := { s with exchange := none }
    let judged :=
      match judgeReply x.bay chars with
      | .miss _ => miss closed x.bay
      | .valid echo t => validArrival closed x.bay x.seqSent echo t
    match s.cycle with
    | none => judged
    | some n => goOn judged n

def execReplyWindowClose (chars : List RxChar) (s : State) : Host.Outcome State Fault Refusal :=
  .next (windowClose chars s)

/-! ### Lapse (R132) -/

/-- A running lapse timer reaches 0: the applied grant lapses. A stopped timer has no such event. -/
def lapseBay (b : Fin 32) (s : State) : State :=
  if (bayAt s b).lapse.isSome then setBay s b ((bayAt s b).drop s.tuning.dead) else s

def execLapse (bay : Fin 32) (s : State) : Host.Outcome State Fault Refusal := .next (lapseBay bay s)

/-! ### ENABLE_BAYS (R143) -/

/-- One bay's record under the new list. -/
def Bay.enable (x : Bay) (listed : Bool) : Bay :=
  match x.enabled, listed with
  | false, true => { x with enabled := true, link := .unseen, misses := 0 }
  | true, false => { x with enabled := false, link := .disabled, misses := 0 }
  | true, true => x
  | false, false => x

def enableBays (list : Word) (s : State) : State :=
  answer .ok [] (mapBays (fun b x => x.enable (list.getLsbD b.val)) s)

def execEnableBays (list : Word) (s : State) : Host.Outcome State Fault Refusal := .next (enableBays list s)

/-! ### READ_BAY (R145, section 8.7) -/

/-- The telemetry fields of READ_BAY, 14 bytes. -/
def teleBytes (t : Telemetry) : List Byte :=
  [byteOf t.connector.code] ++ bytes32 t.tag ++ beInt16 t.cabin ++ beInt16 t.outdoor
    ++ [byteOf t.heatCap, byteOf t.coolCap] ++ be16 t.power ++ [byteOf t.hvac.code]

def grantFields (g : Grant) : List Byte := [byteOf g.mode.code, byteOf g.steps, byteOf g.seq]

/-- Whole seconds left, rounded up; 0 for a stopped timer (R185). -/
def timerSeconds : Option Nat → Nat
  | none => 0
  | some left => secondsUp left

def reversalBytes : Option Reversal → List Byte
  | none => byteOf Mode.off.code :: be16 0
  | some r => byteOf r.mode.code :: be16 (secondsUp r.left)

/-- The 35 bytes of READ_BAY. -/
def bayBytes (s : State) (x : Bay) : List Byte :=
  [boolByte x.enabled, byteOf x.link.code, byteOf x.misses] ++ optPart 4 be32 x.stamp ++ optPart 14 teleBytes x.tele
    ++ grantFields x.pending ++ grantFields x.applied ++ [byteOf (timerSeconds x.lapse), byteOf x.overdraw]
    ++ reversalBytes x.reversal ++ [byteOf (timerSeconds s.hold)]

def readBay (bay : Byte) (s : State) : State :=
  match bayOfByte bay with
  | none => refuse .badValue s
  | some b => answer .ok (bayBytes s (bayAt s b)) s

def execReadBay (bay : Byte) (s : State) : Host.Outcome State Fault Refusal := .next (readBay bay s)

end Sys2Proof.Machine
end

