-- ==== Sys2Proof/Machine/Lines.lean ====
section
/-! DEFINITION. The lines at the pins: the control port bit by bit (R171, R172), ATTN_N (R201), and the characters of the
bay link bit by bit (R117, R186). The edges that the depot controller, the supply and the grid-connection equipment put on the
pins are inputs beside the queue (log 5, log 9). -/

namespace Sys2Proof.Machine

/-! ### The bits of a byte -/

/-- Most significant bit first: SPI (R171). -/
def bitsMsb (b : Byte) : List Bool := (List.range 8).map fun k => b.getLsbD (7 - k)

/-- Least significant bit first: the bay link (R186). -/
def bitsLsb (b : Byte) : List Bool := (List.range 8).map fun k => b.getLsbD k

/-- The byte of eight bits, most significant bit first. -/
def byteOfMsb (bits : List Bool) : Byte := byteOf (bits.foldl (fun n b => 2 * n + b.toNat) 0)

/-- The byte of eight bits, least significant bit first. -/
def byteOfLsb (bits : List Bool) : Byte := byteOfMsb bits.reverse

/-! ### Pins -/

/-- What happens at the pins of the port, at RESET_N, at the supply and at CURT. -/
inductive PinEdge where
  | csFall | csRise
  /-- `mosi`: the level of MOSI at the edge -/
  | sclkRise (mosi : Bool)
  | sclkFall
  | resetFall
  | resetRise
  | supplyOn
  /-- the power-on reset ends -/
  | supplyReady
  /-- `level`: the level of CURT, before its filter -/
  | curt (level : Bool)
deriving DecidableEq, Repr

/-- CS_N while nothing is received: a low level is ignored until CS_N has risen (R172). -/
def ChipSelect.dropped : ChipSelect → ChipSelect
  | .high => .high
  | .low => .ignored
  | .ignored => .ignored

/-- The pins with no transfer under way, CS_N at its level: as a power-on or pin reset begins and ends (R172). -/
def Pins.afterReset (p : Pins) : Pins := { p with cs := p.cs.dropped, inBits := [], driven := 0, rose := false }

/-- A cause of reset when the row of its end is taken: it holds the part no longer, unless it has come again (log 9). -/
def ResetPhase.taken : ResetPhase → ResetPhase
  | .over => .over
  | .under => .under
  | .ending => .over

/-- The port takes part in a transfer. -/
def receiving (s : State) : Bool := !s.pins.held && s.pins.cs == .low

/-! ### The row a transfer is -/

/-- The row of the table a transfer is when CS_N rises (R176 to R178). -/
def transferRow (f : RxFrame) : Instr :=
  match f.judge with
  | none => .shortTransfer
  | some (.command i) => i
  | some (.error _) => .frameError f.bytes

/-! ### The edges (R171, R172) -/

/-- CS_N falls: a transfer begins, unless the part is held in reset. -/
def beginTransfer (s : State) : State :=
  if s.pins.cs = .high then
    if s.pins.held then { s with pins := { s.pins with cs := .ignored } }
    else { s with rx := .empty, pins := { s.pins with cs := .low, inBits := [], driven := 0, rose := false } }
  else s

/-- SCLK rises: MOSI is sampled, and each eighth bit completes a byte. -/
def sampleMosi (mosi : Bool) (s : State) : State :=
  if receiving s then
    let bits := s.pins.inBits ++ [mosi]
    if bits.length < 8 then { s with pins := { s.pins with inBits := bits, rose := true } }
    else { s with rx := s.rx.receive (byteOfMsb bits), pins := { s.pins with inBits := [], rose := true } }
  else s

/-- SCLK falls: the next bit is driven on MISO, if SCLK has risen since the last. -/
def driveMiso (s : State) : State :=
  if receiving s && s.pins.rose then { s with pins := { s.pins with driven := s.pins.driven + 1, rose := false } } else s

/-- CS_N rises: leftover bits are discarded and the row of the transfer joins the waiting commands (log 5); nothing was
received while CS_N was ignored. -/
def endTransfer (s : State) : State :=
  if receiving s then
    { s with
      pending := s.pending ++ [transferRow s.rx]
      rx := .empty
      pins := { s.pins with cs := .high, inBits := [], driven := 0, rose := false } }
  else { s with pins := { s.pins with cs := .high } }

/-- RESET_N falls, or supply is applied: a transfer under way is dropped (R172). -/
def enterReset (pins : Pins) (s : State) : State := { s with rx := .empty, pins := pins.afterReset }

/-- A reset under way at the pins ends: the row of that reset waits, and holds the part until it is taken (log 9). -/
def leaveReset (phase : ResetPhase) (pins : Pins) (row : Instr) (s : State) : State :=
  if phase = .under then { s with pending := s.pending ++ [row], pins := pins } else s

/-- One edge at the pins. -/
def pinEdge (e : PinEdge) (s : State) : State :=
  match e with
  | .csFall => beginTransfer s
  | .csRise => endTransfer s
  | .sclkRise mosi => sampleMosi mosi s
  | .sclkFall => driveMiso s
  | .resetFall => enterReset { s.pins with resetN := .under } s
  | .resetRise => leaveReset s.pins.resetN { s.pins with resetN := .ending } (.pinReset s.curt.level) s
  | .supplyOn => enterReset { s.pins with supply := .under } s
  | .supplyReady => leaveReset s.pins.supply { s.pins with supply := .ending } (.powerOnReset s.curt.line) s
  | .curt level => { s with curt := s.curt.drive level }

/-- Edges one after the other. -/
def pinEdges (edges : List PinEdge) (s : State) : State := edges.foldl (fun t e => pinEdge e t) s

/-! ### Levels the part drives -/

/-- MISO: none for high-impedance, otherwise the bit driven, most significant bit of each byte first (R171). -/
def misoLevel (s : State) : Option Bool :=
  if receiving s then
    let k := s.pins.driven / 8
    (misoBytes s (k + 1))[k]?.map fun b => b.getLsbD (7 - s.pins.driven % 8)
  else none

/-- ATTN_N asserted at the pin: released while the part is held in reset (R201), else as R200 gives. -/
def attnLine (s : State) : Bool := !s.pins.held && attnAsserted s

/-! ### The bay link (R117, R186) -/

/-- Crystal cycles of one bit at 250 kbit/s (R117). -/
def bitTime : Nat := 64

/-- One character, true for marking: start bit, data bits, stop bit (R186). -/
def charBits (b : Byte) : List Bool := false :: bitsLsb b ++ [true]

/-- The characters of a frame back to back (R186). -/
def frameBits (bytes : List Byte) : List Bool := bytes.flatMap charBits

/-- What the part puts on the bay link: BL_DE asserted, and BL_TX marking. -/
structure LinkLevel where
  de : Bool
  tx : Bool
deriving DecidableEq, Repr

/-- The driver off, the line marking. -/
def LinkLevel.resting : LinkLevel := { de := false, tx := true }

/-- A break: the driver on, the line spacing. -/
def LinkLevel.break : LinkLevel := { de := true, tx := false }

/-- The line is held in break: a link reset hold (R139), or the part held in reset (R141). -/
def linkInBreak (s : State) : Bool := s.pins.held || s.hold.isSome

/-- The level at an age of a frame that the part sends: its bits, then the driver off (R117). -/
def frameLevel (frame : List Byte) (age : Nat) : LinkLevel :=
  match (frameBits frame)[age / bitTime]? with
  | some level => { de := true, tx := level }
  | none => .resting

/-- BL_DE and BL_TX `later` crystal cycles after a state, as long as no event intervenes (R117): the bits of the ALLSTOP being
sent, or those of the GRANT of the exchange in progress and then its reply window. -/
def linkLevel (s : State) (later : Nat) : LinkLevel :=
  if linkInBreak s then .break
  else
    match s.sending, s.exchange with
    | some age, _ => frameLevel s.allstopFrame (age + later)
    | none, some x => frameLevel s.grantFrame (x.age + later)
    | none, none => .resting

/-- The receiver between two bits: the data bits of a character in progress, and the characters taken. -/
structure Receiver where
  bits : Option (List Bool)
  chars : List RxChar
deriving DecidableEq, Repr

/-- One bit of BL_RX: a spacing level begins a character, the ninth bit after it is the stop bit; a spacing level there is a
framing error and makes the character corrupt (R117, R186). The next spacing bit begins the next character (log 23). -/
def Receiver.take (r : Receiver) (level : Bool) : Receiver :=
  match r.bits with
  | none => if level then r else { r with bits := some [] }
  | some bits =>
    if bits.length < 8 then { r with bits := some (bits ++ [level]) }
    else { bits := none, chars := r.chars ++ [if level then .byte (byteOfLsb bits) else .corrupt] }

/-- The characters of the bits that a reply window takes in; a character not whole at its close is none. DESIGN CHOICE, log 23:
the receiver begins the window with no character in progress, so that of a character under way at its opening the next spacing
bit is taken as a start bit. -/
def receiveLine (bits : List Bool) : List RxChar := (bits.foldl Receiver.take { bits := none, chars := [] }).chars

/-- The receiver is open: an exchange in progress whose GRANT has been sent (R117, R125). -/
def receiverOpen (s : State) : Bool :=
  match s.exchange with
  | none => false
  | some x => decide ((frameBits s.grantFrame).length * bitTime ≤ x.age)

end Sys2Proof.Machine
end

