-- ==== Sys2Proof/Machine/Resets.lean ====
section
/-! DEFINITION. The three kinds of reset (spec/00; R31, R32, R70 to R72, R101 to R108, R114, R141, R146, R147, R149,
R170, R172, R181, R190, R194, R197, R200). Each is one step, taken at the moment the reset ends. -/

namespace Sys2Proof.Machine

/-- POWER_ON_RESET: every field at its power-on value, the filter at the level `curt` that the CURT line has, then its
sample (R149). -/
def powerOnReset (curt : Bool) (s : State) : State :=
  sampleLine
    { State.reset with
      pending := s.pending
      freeIndex := s.freeIndex
      pins := { s.pins.afterReset with supply := s.pins.supply.taken }
      curt := .steady curt }

def execPowerOnReset (curt : Bool) (s : State) : Host.Outcome State Fault Refusal := .next (powerOnReset curt s)

/-- PIN_RESET: as a power-on reset, but profiles (R71) and ceiling (R101) are kept, the working cap equals the ceiling
(R103), and the CURT filter, which has run on, holds the level `curt` (R149). -/
def pinReset (curt : Bool) (s : State) : State :=
  sampleLine
    { State.reset with
      pending := s.pending
      freeIndex := s.freeIndex
      pins := { s.pins.afterReset with resetN := s.pins.resetN.taken }
      curt := s.curt.settle curt
      profiles := s.profiles
      ceiling := s.ceiling
      workingCap := s.ceiling }

def execPinReset (curt : Bool) (s : State) : Host.Outcome State Fault Refusal := .next (pinReset curt s)

/-- A slot after a soft reset: emptied, its generation kept (R32), its marks gone. -/
def Slot.softReset (x : Slot) : Slot := { Slot.initial with gen := x.gen }

/-- A bay record after a soft reset: the enabled list is kept (R147). -/
def Bay.softReset (x : Bay) : Bay :=
  { Bay.initial with enabled := x.enabled, link := if x.enabled then .unseen else .disabled }

/-- SOFT_RESET (R181). -/
def softReset (s : State) : State :=
  sampleLine
    (mapBays (fun _ x => x.softReset) (mapSlots (fun _ x => x.softReset)
      { s with
        response := { code := .nothing, payload := [] }
        rx := .empty
        queues := Vector.replicate 32 []
        periodTimer := s.tuning.period * Config.second
        pass := none
        passMark := false
        load := .initial
        cycleTimer := Config.second
        cycle := none
        deferred := false
        exchange := none
        allstop := none
        sending := none
        hold := some holdTime
        grantFrame := []
        allstopFrame := []
        lineState := false
        softCurtail := false
        flags := EventFlag.reset.bit }))

def execSoftReset (s : State) : Host.Outcome State Fault Refusal := .next (softReset s)

end Sys2Proof.Machine
end

