-- ==== Sys2Proof/Machine/Port.lean ====
section
/-! DEFINITION. The control port (spec/08, R171 to R180): NOP, a transfer judged from its bytes, a short transfer. -/

namespace Sys2Proof.Machine

/-- NOP prepares NONE and changes nothing else (R180). -/
def execNop (s : State) : Host.Outcome State Fault Refusal := .next (answer .nothing [] s)

/-- A transfer that ends before one whole byte is passed by (R177). -/
def execShortTransfer (s : State) : Host.Outcome State Fault Refusal := .next s

/-- The command of a frame that passed every check of R176, handed to its owner (R178). -/
def runCommand (i : Instr) (s : State) : Host.Outcome State Fault Refusal :=
  match i with
  | .nop => execNop s
  | .status => execStatus s
  | .clearStatus f => execClearStatus f s
  | .setAttnMask m => execSetAttnMask m s
  | .readClock => execReadClock s
  | .setClock c => execSetClock c s
  | .setTuning p d l st sel band => execSetTuning p d l st sel band s
  | .softReset => execSoftReset s
  | .openOrder bay tag dep target band prio opts => execOpenOrder bay tag dep target band prio opts s
  | .amend h force changes dep target band prio tag => execAmend h force changes dep target band prio tag s
  | .lock h => execLock h s
  | .unlock h => execUnlock h s
  | .close h force => execClose h force s
  | .retire h => execRetire h s
  | .lookup h part => execLookup h part s
  | .findByBay bay => execFindByBay bay s
  | .findByTag tag start => execFindByTag tag start s
  | .findByState code start => execFindByState code start s
  | .profileRead tag => execProfileRead tag s
  | .profilePreset tag kc u pin => execProfilePreset tag kc u pin s
  | .profileDrop tag => execProfileDrop tag s
  | .setCeiling v => execSetCeiling v s
  | .setWorkingCap v => execSetWorkingCap v s
  | .setCurtailCap v => execSetCurtailCap v s
  | .setFallbackCap v => execSetFallbackCap v s
  | .setFeeder k base limit cap => execSetFeeder k base limit cap s
  | .reportLoad site count loads => execReportLoad site count loads s
  | .readBudget => execReadBudget s
  | .enableBays l => execEnableBays l s
  | .linkReset => execLinkReset s
  | .readBay b => execReadBay b s
  | .rearm h => execRearm h s
  | .curtail v => execCurtail v s
  | .allocateNow => execAllocateNow s
  | .frameError _ | .shortTransfer | .powerOnReset _ | .pinReset _ | .curtLineChange _ | .allstop | .clockAdvance
  | .periodTimerExpiry | .publish | .cycleTimerExpiry | .replyWindowClose _ | .linkResetHoldEnd | .lapse _
  | .reversalTimerExpiry _ | .loadStaleTransition => .next s

/-- A transfer whose frame fails a check of R176 prepares the error response and executes nothing. Bytes that pass
every check are a command and execute (R178); no byte at all is the short transfer of R177 (log 5). -/
def execFrameError (bytes : List Byte) (s : State) : Host.Outcome State Fault Refusal :=
  match judgeFrame bytes with
  | none => .next s
  | some (.error code) => .next (refuse code s)
  | some (.command i) => runCommand i s

end Sys2Proof.Machine
end

