-- ==== Sys2Proof/Machine/Dispatch.lean ====
section
/-! DEFINITION. One arm per command or event: one direct call of its meaning. -/

namespace Sys2Proof.Machine

def exec (i : Instr) (s : State) : Host.Outcome State Fault Refusal :=
  match i with
  | .nop => Sys2Proof.Machine.execNop s
  | .status => Sys2Proof.Machine.execStatus s
  | .clearStatus flags => Sys2Proof.Machine.execClearStatus flags s
  | .setAttnMask mask => Sys2Proof.Machine.execSetAttnMask mask s
  | .readClock => Sys2Proof.Machine.execReadClock s
  | .setClock clock => Sys2Proof.Machine.execSetClock clock s
  | .setTuning period dead lead stale selection band => Sys2Proof.Machine.execSetTuning period dead lead stale selection band s
  | .softReset => Sys2Proof.Machine.execSoftReset s
  | .openOrder bay tag departure target band priority options => Sys2Proof.Machine.execOpenOrder bay tag departure target band priority options s
  | .amend h force changes departure target band priority tag => Sys2Proof.Machine.execAmend h force changes departure target band priority tag s
  | .lock h => Sys2Proof.Machine.execLock h s
  | .unlock h => Sys2Proof.Machine.execUnlock h s
  | .close h force => Sys2Proof.Machine.execClose h force s
  | .retire h => Sys2Proof.Machine.execRetire h s
  | .lookup h part => Sys2Proof.Machine.execLookup h part s
  | .findByBay bay => Sys2Proof.Machine.execFindByBay bay s
  | .findByTag tag start => Sys2Proof.Machine.execFindByTag tag start s
  | .findByState code start => Sys2Proof.Machine.execFindByState code start s
  | .profileRead tag => Sys2Proof.Machine.execProfileRead tag s
  | .profilePreset tag kc u pin => Sys2Proof.Machine.execProfilePreset tag kc u pin s
  | .profileDrop tag => Sys2Proof.Machine.execProfileDrop tag s
  | .setCeiling value => Sys2Proof.Machine.execSetCeiling value s
  | .setWorkingCap value => Sys2Proof.Machine.execSetWorkingCap value s
  | .setCurtailCap value => Sys2Proof.Machine.execSetCurtailCap value s
  | .setFallbackCap value => Sys2Proof.Machine.execSetFallbackCap value s
  | .setFeeder feeder base limit cap => Sys2Proof.Machine.execSetFeeder feeder base limit cap s
  | .reportLoad site count loads => Sys2Proof.Machine.execReportLoad site count loads s
  | .readBudget => Sys2Proof.Machine.execReadBudget s
  | .enableBays list => Sys2Proof.Machine.execEnableBays list s
  | .linkReset => Sys2Proof.Machine.execLinkReset s
  | .readBay bay => Sys2Proof.Machine.execReadBay bay s
  | .rearm h => Sys2Proof.Machine.execRearm h s
  | .curtail value => Sys2Proof.Machine.execCurtail value s
  | .allocateNow => Sys2Proof.Machine.execAllocateNow s
  | .frameError bytes => Sys2Proof.Machine.execFrameError bytes s
  | .shortTransfer => Sys2Proof.Machine.execShortTransfer s
  | .powerOnReset curt => Sys2Proof.Machine.execPowerOnReset curt s
  | .pinReset curt => Sys2Proof.Machine.execPinReset curt s
  | .curtLineChange level => Sys2Proof.Machine.execCurtLineChange level s
  | .allstop => Sys2Proof.Machine.execAllstop s
  | .clockAdvance => Sys2Proof.Machine.execClockAdvance s
  | .periodTimerExpiry => Sys2Proof.Machine.execPeriodTimerExpiry s
  | .publish => Sys2Proof.Machine.execPublish s
  | .cycleTimerExpiry => Sys2Proof.Machine.execCycleTimerExpiry s
  | .replyWindowClose chars => Sys2Proof.Machine.execReplyWindowClose chars s
  | .linkResetHoldEnd => Sys2Proof.Machine.execLinkResetHoldEnd s
  | .lapse bay => Sys2Proof.Machine.execLapse bay s
  | .reversalTimerExpiry bay => Sys2Proof.Machine.execReversalTimerExpiry bay s
  | .loadStaleTransition => Sys2Proof.Machine.execLoadStaleTransition s

end Sys2Proof.Machine
end

