-- ==== Sys2Proof/Machine/Time.lean ====
section
/-! DEFINITION. The passing of time on an empty queue (log 2): one character time of 640 crystal cycles elapses on
every timer (R191), and the events that come due are taken in an order that is a free value (log 3). -/

namespace Sys2Proof.Machine

/-- The events that time brings. -/
inductive TimedEvent where
  | clock | period | cycle | hold | window | publish | loadStale | allstop | curt
  | lapse (b : Fin 32)
  | reversal (b : Fin 32)
deriving DecidableEq, Repr

/-! ### Elapsed time -/

def countDown (left : Option Nat) : Option Nat := left.map fun n => n - Config.tickCycles

def Bay.elapse (x : Bay) : Bay :=
  { x with
    lapse := countDown x.lapse
    reversal := x.reversal.map fun r => { r with left := r.left - Config.tickCycles } }

/-- Time passes on the phase and on every timer; nothing is taken yet. -/
def elapse (s : State) : State :=
  mapBays (fun _ x => x.elapse)
    { s with
      phase := s.phase + Config.tickCycles
      periodTimer := s.periodTimer - Config.tickCycles
      cycleTimer := s.cycleTimer - Config.tickCycles
      hold := countDown s.hold
      exchange := s.exchange.map fun x => { x with age := x.age + Config.tickCycles }
      sending := s.sending.map fun age => age + Config.tickCycles
      pass := s.pass.map fun p => { p with age := p.age + Config.tickCycles }
      load := { s.load with age := s.load.age.map fun a => a + Config.tickCycles }
      curt := s.curt.count }

/-! ### What is due -/

/-- The bound of R76: 20 ms from snapshot to publish. -/
def passBound : Nat := 320000

def passDue (s : State) : Bool :=
  match s.pass with
  | some p => decide (passBound ≤ p.age) || Config.passDone s.freeIndex
  | none => false

def windowDue (s : State) : Bool :=
  match s.exchange with
  | some x => decide (exchangeTime ≤ x.age)
  | none => false

/-- An ALLSTOP of 7 characters of 40 µs (R117, R189). -/
def allstopTime : Nat := 7 * 640

/-- The ALLSTOP being sent has been sent, or one waits and the line is free (R127). -/
def allstopDue (s : State) : Bool :=
  match s.sending with
  | some age => decide (allstopTime ≤ age)
  | none => s.allstop.isSome && lineFree s

def reversalDue (x : Bay) : Bool :=
  match x.reversal with
  | some r => decide (r.left = 0)
  | none => false

/-- The events due in a state; the period timer is due in the tick in which it runs out (log 7). -/
def dueEvents (before s : State) : List TimedEvent :=
  (if Config.second ≤ s.phase then [.clock] else [])
    ++ (if before.periodTimer ≠ 0 ∧ s.periodTimer = 0 then [.period] else [])
    ++ (if s.cycleTimer = 0 then [.cycle] else [])
    ++ (if s.hold = some 0 then [.hold] else [])
    ++ (if windowDue s then [.window] else [])
    ++ (if passDue s then [.publish] else [])
    ++ (if loadDue s then [.loadStale] else [])
    ++ (if allstopDue s then [.allstop] else [])
    ++ (if s.curt.due then [.curt] else [])
    ++ (allBays.filter fun b => (bayAt s b).lapse == some 0).map .lapse
    ++ (allBays.filter fun b => reversalDue (bayAt s b)).map .reversal

/-- Whether an event that was due still is when its turn comes: one taken before it may have moved its timer. An expiry of the
period timer stays a request whatever pass a request taken before it has started (R74). -/
def stillDue (s : State) : TimedEvent → Bool
  | .clock => true
  | .period => true
  | .cycle => true
  | .hold => s.hold == some 0
  | .window => windowDue s
  | .publish => match s.pass with
      | some p => decide (0 < p.age)
      | none => false
  | .loadStale => loadDue s
  | .allstop => allstopDue s
  | .curt => s.curt.due
  | .lapse b => (bayAt s b).lapse == some 0
  | .reversal b => reversalDue (bayAt s b)

/-- The event itself; a window that closes by time alone has collected no character. -/
def takeEvent (s : State) : TimedEvent → State
  | .clock => clockAdvance s
  | .period => periodExpiry s
  | .cycle => cycleExpiry s
  | .hold => holdEnd s
  | .window => windowClose [] s
  | .publish => publishPass s
  | .loadStale => loadStaleTransition s
  | .allstop => sendAllstop s
  | .curt => curtLineChange s.curt.line s
  | .lapse b => lapseBay b s
  | .reversal b => reversalExpiry b s

/-! ### One idle step -/

def insertAt {α : Type} (n : Nat) (x : α) : List α → List α
  | [] => [x]
  | y :: ys =>
    match n with
    | 0 => x :: y :: ys
    | m + 1 => y :: insertAt m x ys
termination_by structural l => l

/-- Orders the events that come due together by free values; every order is possible. -/
def arrange (k : Nat) : List TimedEvent → List TimedEvent
  | [] => []
  | e :: rest => insertAt (Config.tieOrder k % (rest.length + 1)) e (arrange (k + 1) rest)

/-- One idle step of the part as it runs. -/
def passTime (s : State) : State :=
  let later := elapse s
  let due := dueEvents s later
  let indexed := { later with freeIndex := s.freeIndex + due.length + 1 }
  (arrange s.freeIndex due).foldl (fun t e => if stillDue t e then takeEvent t e else t) indexed

/-- One idle step of a part held in reset: the CURT filter alone runs on (R149, log 9). -/
def filterTime (s : State) : State :=
  let f := s.curt.count
  { s with curt := if f.due then f.settle f.line else f }

/-- One idle step. -/
def tick (s : State) : State := if s.pins.held then filterTime s else passTime s

end Sys2Proof.Machine
end

