-- ==== Sys2Proof/Safety.lean ====
section
/-! DEFINITION. What a sound state of the part is: the properties the spec states of its records at every moment. Each
is a plain predicate on one state; Certificates/Slice0/Obligations.lean states that every step keeps them. -/

namespace Sys2Proof.Safety

open Sys2Proof.Machine

/-! ### Limits -/

/-- No cap is above the ceiling it is clamped to (R101, R103, R104, R106). -/
def CapsSound (s : State) : Prop :=
  s.ceiling ≤ 20000 ∧ s.workingCap ≤ s.ceiling ∧ s.fallbackCap ≤ s.ceiling ∧ s.curtailCap ≤ 20000

/-- Every tuning value lies in its range (R194). -/
def TuningSound (t : Tuning) : Prop :=
  (5 ≤ t.period ∧ t.period ≤ 60) ∧ (30 ≤ t.dead ∧ t.dead ≤ 600) ∧ (600 ≤ t.lead ∧ t.lead ≤ 7200)
    ∧ (5 ≤ t.stale ∧ t.stale ≤ 300) ∧ (3 ≤ t.band ∧ t.band ≤ 30)

/-- A feeder window holds values of R108. -/
def WindowSound (w : Window) : Prop := w.base ≤ 31 ∧ w.limit ≤ 31 ∧ w.cap ≤ 20000

/-- The load record holds values of R111. -/
def LoadSound (l : LoadRecord) : Prop := l.site ≤ 20000 ∧ (∀ k : Fin 4, l.feeders[k] ≤ 20000) ∧ (l.state = .fresh → l.age ≠ none)

/-- Ceiling, caps, windows, load record, tuning values and clock lie in their ranges. -/
def LimitsSound (s : State) : Prop :=
  CapsSound s ∧ (∀ k : Fin 4, WindowSound s.windows[k]) ∧ LoadSound s.load ∧ TuningSound s.tuning ∧ s.clock ≤ clockMax

/-! ### Profiles -/

/-- A profile's fields lie in the ranges of R55. -/
def ProfileSound (p : Profile) : Prop :=
  p.tag ≠ 0 ∧ (10 ≤ p.kc ∧ p.kc ≤ 250) ∧ (5 ≤ p.u ∧ p.u ≤ 100) ∧ p.samples ≤ 255

/-- At most 64 profiles, no two of one tag, each in its ranges (R56). -/
def ProfilesSound (s : State) : Prop :=
  s.profiles.length ≤ 64 ∧ (s.profiles.map fun p => p.tag).Nodup ∧ ∀ p ∈ s.profiles, ProfileSound p

/-! ### Bays -/

/-- A grant is OFF with 0 steps, or HEAT or COOL with 5..120 steps (R128); its sequence is 0..15. -/
def GrantSound (g : Grant) : Prop :=
  ((g.mode = .off ∧ g.steps = 0) ∨ (g.mode ≠ .off ∧ 5 ≤ g.steps ∧ g.steps ≤ 120)) ∧ g.seq ≤ 15

/-- Stored telemetry lies in the ranges of R134. -/
def TelemetrySound (t : Telemetry) : Prop :=
  (-400 ≤ t.cabin ∧ t.cabin ≤ 600) ∧ (-400 ≤ t.outdoor ∧ t.outdoor ≤ 600) ∧ t.heatCap ≤ 255 ∧ t.coolCap ≤ 255
    ∧ t.power ≤ 15000

/-- A bay record as R120 gives it: DISABLED exactly while not enabled, counts in range, a lapse timer of at most 10 s
that runs exactly while the applied grant is above 0, a remembered mode HEAT or COOL, and a stamp exactly with
telemetry. -/
def BaySound (x : Bay) : Prop :=
  (x.link = .disabled ↔ x.enabled = false) ∧ x.misses ≤ 3 ∧ x.overdraw ≤ 2 ∧ GrantSound x.pending ∧ GrantSound x.applied
    ∧ (x.lapse.isSome ↔ 0 < x.applied.steps) ∧ (∀ n ∈ x.lapse, n ≤ lapseTime) ∧ (∀ r ∈ x.reversal, r.mode ≠ .off)
    ∧ (x.stamp.isSome ↔ x.tele.isSome) ∧ (∀ t ∈ x.tele, TelemetrySound t)

def BaysSound (s : State) : Prop := ∀ b : Fin 32, BaySound s.bays[b]

/-- The link as a whole: an exchange only inside a cycle, neither in a hold, no ALLSTOP sent during either, no empty ALLSTOP
list waiting and none on a quiet line, no cycle on a quiet line, a hold of at most 2 s (R121, R123, R127, R139). -/
def LinkSound (s : State) : Prop :=
  (s.exchange.isSome → s.cycle.isSome) ∧ (s.hold.isSome → s.cycle = none ∧ s.exchange = none ∧ s.allstop = none)
    ∧ s.allstop ≠ some 0 ∧ (∀ n ∈ s.hold, n ≤ holdTime)
    ∧ (s.sending.isSome → s.exchange = none ∧ s.hold = none)
    ∧ (s.allstop.isSome ∨ s.cycle.isSome → s.exchange.isSome ∨ s.sending.isSome)

/-! ### Orders and queues -/

/-- An order record as R1 gives it. -/
def OrderSound (o : Order) : Prop :=
  (160 ≤ o.target ∧ o.target ≤ 280) ∧ (3 ≤ o.band ∧ o.band ≤ 30) ∧ o.departure ≤ clockMax ∧ o.energy ≤ 4294967295 ∧ o.remainder < 3600
    ∧ (o.started = true ↔ o.activation.isSome) ∧ (o.state = .closed ↔ o.outcome.isSome)
    ∧ (o.state = .tripped → o.trip.isSome)

/-- Every order record in the table is sound, and so are the tuning values the next OPEN reads. -/
def OrdersSound (s : State) : Prop := TuningSound s.tuning ∧ ∀ i : Fin 48, ∀ o ∈ s.slots[i].order, OrderSound o

/-- Some slot holds a live order of the bay. -/
def LiveIn (s : State) (b : Fin 32) (i : Fin 48) : Prop := ∃ o, s.slots[i].order = some o ∧ o.bay = b ∧ o.live = true

/-- The queues of R7 and R8: a bay's queue lists exactly its live orders, at most 3, each at least 900 s after the one
before it; the head is not QUEUED, every order behind it is QUEUED and has not started. -/
def QueuesSound (s : State) : Prop :=
  ∀ b : Fin 32,
    s.queues[b].length ≤ 3
    ∧ (∀ i : Fin 48, i ∈ s.queues[b] ↔ LiveIn s b i)
    ∧ s.queues[b].Pairwise (fun i j => departureAt s i + 900 ≤ departureAt s j)
    ∧ (∀ i, s.queues[b].head? = some i → ∀ o ∈ s.slots[i].order, o.state ≠ .queued)
    ∧ (∀ i ∈ s.queues[b].tail, ∀ o ∈ s.slots[i].order, o.state = .queued ∧ o.started = false)

/-- Every live order departs after the present clock value (R43). -/
def DeparturesAhead (s : State) : Prop := ∀ i : Fin 48, ∀ o ∈ s.slots[i].order, o.live = true → s.clock < o.departure

/-! ### Committed power (R92) -/

/-- A bay's charge: the larger of its applied and pending steps. -/
def charge (s : State) (b : Fin 32) : Nat := max s.bays[b].applied.steps s.bays[b].pending.steps

/-- The sum over all bays of the larger of applied and pending steps. -/
def committed (s : State) : Nat := (allBays.map (charge s)).sum

/-- The committed sum is within the ceiling, and a pass in flight took no more than the ceiling for its site headroom and
charges every bay at least what it holds now. -/
def CommitSound (s : State) : Prop :=
  s.workingCap ≤ s.ceiling ∧ committed s ≤ s.ceiling
    ∧ ∀ p ∈ s.pass, p.snap.site ≤ s.ceiling ∧ siteSum p.snap ≤ s.ceiling
        ∧ ∀ b : Fin 32, charge s b ≤ heldCharge p.snap.bays[b]

/-! ### Mode reversal (R169) -/

/-- The remembered mode of a running reversal timer. -/
def Bay.resting (x : Bay) : Option Mode := x.reversal.map fun r => r.mode

/-- What a pass in flight saw of a bay covers what the bay holds now. -/
def SeenBy (v : SnapBay) (x : Bay) : Prop :=
  (x.pending.mode = .off ∨ x.pending.mode = v.pendingMode)
    ∧ (x.applied.mode = .off ∨ x.applied.mode = v.appliedMode ∨ x.applied.mode = v.pendingMode)
    ∧ (∀ r ∈ x.reversal, v.resting = some r.mode ∨ r.mode = v.appliedMode ∨ r.mode = v.pendingMode)

/-- No bay is offered or resting against the mode it runs: a pending HEAT or COOL meets neither an applied grant nor a
running reversal timer of the opposite mode, and a bay that runs a mode has no reversal timer. -/
def ReversalSound (s : State) : Prop :=
  (∀ b : Fin 32,
      (∀ r ∈ s.bays[b].reversal, r.mode ≠ .off)
      ∧ (s.bays[b].applied.mode ≠ .off → s.bays[b].reversal = none)
      ∧ (s.bays[b].pending.mode ≠ .off →
          s.bays[b].applied.mode ≠ s.bays[b].pending.mode.opposite
          ∧ ∀ r ∈ s.bays[b].reversal, r.mode ≠ s.bays[b].pending.mode.opposite))
    ∧ ∀ p ∈ s.pass, ∀ b : Fin 32, SeenBy p.snap.bays[b] s.bays[b]

/-! ### Reading a response payload -/

/-- The number a field holds, most significant byte first (R184). -/
def beValue (bytes : List Byte) : Nat := bytes.foldl (fun n b => 256 * n + b.toNat) 0

/-- Reads a payload field by field, each at its width in bytes; none unless the widths use the payload up. -/
def readFields : List Nat → List Byte → Option (List Nat)
  | [], [] => some []
  | [], _ :: _ => none
  | w :: ws, p => if p.length < w then none else (readFields ws (p.drop w)).map fun vs => beValue (p.take w) :: vs

/-- Values as fields of those widths in bytes hold them. -/
def atWidths (ws vs : List Nat) : List Nat := List.zipWith (fun w v => v % 256 ^ w) ws vs

/-- A signed value in two's complement. -/
def twos (bits : Nat) (i : Int) : Nat := (i % (2 ^ bits : Int)).toNat

/-- Command `c` taken in `s` is answered OK with fields of those widths and values and leaves the state `t`, the port
aside. -/
def Answers (c : Instr) (s t : State) (widths values : List Nat) : Prop :=
  widths.length = values.length
    ∧ ∃ p, readFields widths p = some (atWidths widths values) ∧ exec c s = .next (answer .ok p t)

/-! ### Codes -/

/-- The codes of the enumerations and the bits of the named sets, as the tables of R184 and of the response codes list
them. -/
def CodesAsListed : Prop :=
  [Priority.standard, .elevated, .urgent].map Priority.code = [0, 1, 2]
    ∧ [OrderState.queued, .planned, .active, .holding].map OrderState.code = [0, 1, 2, 3]
    ∧ (∀ r, (OrderState.paused r).code = 4 ∧ (OrderState.paused r).reasonCode = r.code)
    ∧ OrderState.tripped.code = 5 ∧ OrderState.closed.code = 6
    ∧ [OrderState.queued, .planned, .active, .holding, .tripped, .closed].map OrderState.reasonCode = [0, 0, 0, 0, 0, 0]
    ∧ [PauseReason.absent, .wrongVehicle, .stale, .unmapped, .incapable, .curtail, .linkReset, .cabinLimit, .overdraw,
        .hvacFault].map PauseReason.code = [1, 2, 3, 4, 5, 6, 7, 8, 9, 10]
    ∧ [Mode.off, .heat, .cool].map Mode.code = [0, 1, 2]
    ∧ [Wanted.off, .heat, .cool, .inBand].map Wanted.code = [0, 1, 2, 3]
    ∧ [OutcomeKind.ready, .short, .unplugged, .ended, .tripped, .absent].map OutcomeKind.code = [0, 1, 2, 3, 4, 5]
    ∧ [Cause.cabinLimit, .overdraw, .hvacFault, .silent].map Cause.code = [0, 1, 2, 3]
    ∧ (∀ c : CauseSet, c.code < 16 ∧ c.code.testBit 0 = c.cabinLimit ∧ c.code.testBit 1 = c.overdraw
        ∧ c.code.testBit 2 = c.hvacFault ∧ c.code.testBit 3 = c.silent)
    ∧ (∀ f : OrderFlags, f.code < 32 ∧ f.code.testBit 0 = f.shortfall ∧ f.code.testBit 1 = f.starved
        ∧ f.code.testBit 2 = f.reversing ∧ f.code.testBit 3 = f.noProfile ∧ f.code.testBit 4 = f.learned)
    ∧ [EventFlag.orderClosed, .orderTripped, .starved, .baySilent, .loadStale, .curtailChange, .linkResetDone,
        .reset].map EventFlag.bit = [0x01, 0x02, 0x04, 0x08, 0x10, 0x20, 0x40, 0x80]
    ∧ [LinkState.disabled, .unseen, .online, .silent].map LinkState.code = [0, 1, 2, 3]
    ∧ [LoadState.fresh, .stale].map LoadState.code = [0, 1]
    ∧ [Connector.plugged, .unplugged].map Connector.code = [0, 1]
    ∧ [Hvac.idle, .heating, .cooling, .fault].map Hvac.code = [0, 1, 2, 3]
    ∧ [RespCode.nothing, .ok, .crcError, .badLength, .badCommand, .badValue, .badTime, .noOrder, .tableFull, .queueFull,
        .conflict, .locked, .closed, .notClosed, .started, .notTripped, .stillFaulted, .writeOnce, .noProfile,
        .inUse].map RespCode.toByte
        = [0x00, 0x01, 0x02, 0x03, 0x04, 0x05, 0x06, 0x07, 0x08, 0x09, 0x0A, 0x0B, 0x0C, 0x0D, 0x0E, 0x0F, 0x10, 0x11, 0x12,
          0x13]

/-! ### Lists of checks -/

/-- The first condition of a list that holds decides; `default` when none holds. -/
def FirstOf {α : Type} : List (Prop × α) → α → α → Prop
  | [], default, a => a = default
  | (holds, value) :: rest, default, a => (holds ∧ a = value) ∨ (¬holds ∧ FirstOf rest default a)

/-- Command `c` is refused by the first check that holds, with nothing changed but the response, and answered OK when none
holds (R12). -/
def JudgedBy (c : Instr) (s : State) (checks : List (Prop × RespCode)) : Prop :=
  ∃ t, exec c s = .next t ∧ FirstOf checks .ok t.response.code ∧ (t.response.code ≠ .ok → t = refuse t.response.code s)

/-! ### Naming orders -/

/-- A handle resolves to the order in a slot (R5). -/
def Names (s : State) (h : WireHandle) (i : Fin 48) (o : Order) : Prop :=
  h.slot.toNat = i.val ∧ h.gen = (slotAt s i).gen ∧ orderAt s i = some o

/-- A live order of a bay. -/
def LiveOrder (s : State) (b : Fin 32) (i : Fin 48) (o : Order) : Prop :=
  orderAt s i = some o ∧ o.bay = b ∧ o.state ≠ .closed

/-- The head of a bay's queue. -/
def HeadOf (s : State) (b : Fin 32) (i : Fin 48) : Prop := (queueAt s b).head? = some i

/-- An order as a head change leaves it (R9): displaced when it lost first place, promoted when it gained it. -/
def reheaded (s t : State) (b : Fin 32) (i : Fin 48) (o : Order) : Order :=
  if (queueAt s b).head? = some i ∧ (queueAt t b).head? ≠ some i then
    { o with state := .queued, flags := { o.flags with reversing := false } }
  else if (queueAt s b).head? ≠ some i ∧ (queueAt t b).head? = some i then { o with state := .planned }
  else o

/-- Whether a slot's order gained or lost first place in a bay's queue; its change mark is set then (R94). -/
def headChanged (s t : State) (b : Fin 32) (i : Fin 48) : Bool :=
  decide ((queueAt s b).head? = some i) != decide ((queueAt t b).head? = some i)

/-- The closed record of R10 and R11. -/
def closedAs (now : Nat) (cabin : Option Int) (kind : OutcomeKind) (o : Order) : Order :=
  { o with
    state := .closed
    flags := { o.flags with reversing := false }
    outcome := some
      { kind := kind, time := now, finalCabin := cabin, energy := o.energy
        reachedBand := match cabin with
          | some c => decide (o.target - o.band ≤ c ∧ c ≤ o.target + o.band)
          | none => false } }

/-- The queue of a bay is what it was but for slot `i`, which stands at the place its departure gives (R7). -/
def Placed (s t : State) (b : Fin 32) (i : Fin 48) : Prop :=
  i ∈ queueAt t b ∧ (queueAt t b).filter (fun j => j != i) = (queueAt s b).filter (fun j => j != i)
    ∧ (queueAt t b).Pairwise fun j k => departureAt t j < departureAt t k

/-- What OPEN finds when its checks pass: the bay, the priority, and the lowest empty slot (R6, R13). -/
def OpenPasses (s : State) (bay priority : Byte) (departure : Word) (b : Fin 32) (p : Priority) (i : Fin 48) : Prop :=
  b.val = bay.toNat ∧ p.code = priority.toNat
    ∧ s.clock + 60 ≤ departure.toNat ∧ departure.toNat ≤ s.clock + 604800
    ∧ orderAt s i = none ∧ (∀ j, j < i → orderAt s j ≠ none)
    ∧ (queueAt s b).length < 3
    ∧ (∀ j o, LiveOrder s b j o → 900 ≤ distance o.departure departure.toNat)
    ∧ (∀ j o, HeadOf s b j → orderAt s j = some o → o.started = true ∨ o.state = .tripped → o.departure ≤ departure.toNat)

/-- The tests of R17 for a new departure of the order `o` in slot `i`. -/
def AmendConflicts (s : State) (i : Fin 48) (o : Order) (d : Nat) : Prop :=
  (∃ j q, j ≠ i ∧ LiveOrder s o.bay j q ∧ distance q.departure d < 900)
    ∨ (∃ j q, j ≠ i ∧ HeadOf s o.bay j ∧ orderAt s j = some q ∧ (q.started = true ∨ q.state = .tripped) ∧ d < q.departure)
    ∨ (HeadOf s o.bay i ∧ (o.started = true ∨ o.state = .tripped) ∧ ∃ j q, j ≠ i ∧ LiveOrder s o.bay j q ∧ q.departure < d)

/-- What AMEND finds when its checks pass on the order `o` in slot `i` (R16, R17). -/
def AmendPasses (s : State) (h : WireHandle) (force changes : Byte) (departure : Word) (priority : Byte) (tag : Word)
    (i : Fin 48) (o : Order) : Prop :=
  Names s h i o ∧ (changes.getLsbD 3 = true → priority.toNat ≤ 2) ∧ o.state ≠ .closed ∧ (o.locked = true → force ≠ 0)
    ∧ (changes.getLsbD 4 = true → o.started = true → tag = o.tag)
    ∧ (changes.getLsbD 0 = true →
        (s.clock + 60 ≤ departure.toNat ∧ departure.toNat ≤ s.clock + 604800) ∧ ¬AmendConflicts s i o departure.toNat)

/-! ### Profiles and references -/

/-- A live order carries the tag (R58). -/
def Referenced (s : State) (tag : Tag) : Prop := ∃ i o, orderAt s i = some o ∧ o.state ≠ .closed ∧ o.tag = tag

/-- The victim of R60: neither pinned nor referenced, and every profile less recently used is one or the other. -/
def IsVictim (s : State) (v : Profile) : Prop :=
  ∃ before after, s.profiles = before ++ v :: after ∧ v.pinned = false ∧ ¬Referenced s v.tag
    ∧ ∀ p ∈ after, p.pinned = true ∨ Referenced s p.tag

/-- No profile can be evicted. -/
def NoVictim (s : State) : Prop := ∀ p ∈ s.profiles, p.pinned = true ∨ Referenced s p.tag

/-- A creation with room made for it (R59, R60, R62): the new list, the evicted tag (0 for none). -/
def Creates (s : State) (p : Profile) (after : List Profile) (evicted : Tag) : Prop :=
  (s.profiles.length < 64 ∧ after = p :: s.profiles ∧ evicted = 0)
    ∨ (64 ≤ s.profiles.length
        ∧ ∃ v, IsVictim s v ∧ after = p :: s.profiles.filter (fun q => q.tag != v.tag) ∧ evicted = v.tag)

/-- The three outcomes of a consultation (R59), and none for tag 0: the table afterwards and the NO_PROFILE decision. -/
def Consults (s : State) (tag : Tag) (after : List Profile) (noProfile : Bool) : Prop :=
  (tag = 0 ∧ after = s.profiles ∧ noProfile = false)
    ∨ (tag ≠ 0 ∧ (∃ p ∈ s.profiles, p.tag = tag ∧ after = p :: s.profiles.filter (fun q => q.tag != tag)) ∧ noProfile = false)
    ∨ (tag ≠ 0 ∧ (∀ p ∈ s.profiles, p.tag ≠ tag)
        ∧ (∃ e, Creates s { tag := tag, kc := 45, u := 20, samples := 0, pinned := false } after e) ∧ noProfile = false)
    ∨ (tag ≠ 0 ∧ (∀ p ∈ s.profiles, p.tag ≠ tag) ∧ 64 ≤ s.profiles.length ∧ NoVictim s ∧ after = s.profiles
        ∧ noProfile = true)

/-! ### Passes -/

/-- A pass starts (R73, R94): the snapshot of this moment, the period timer restarted, every change mark cleared. -/
def PassStarts (s t : State) : Prop :=
  t = { s with pass := some { snap := takeSnapshot s, age := 0 }, periodTimer := s.tuning.period * 16000000, slots := t.slots }
    ∧ ∀ i, slotAt t i = { slotAt s i with changeMark := false }

/-- A pass request (R74). -/
def PassRequested (s t : State) : Prop :=
  (s.pass = none → PassStarts s t) ∧ (s.pass ≠ none → t = { s with passMark := true })

/-- The end of a pass (R74). -/
def PassEnds (s t : State) : Prop :=
  (s.passMark = true → PassStarts { s with pass := none, passMark := false } t)
    ∧ (s.passMark = false → t = { s with pass := none })

/-- The steps a pass publishes for a bay: those of its result, 0 without one. -/
def grantedSteps (results : List PassResult) (b : Fin 32) : Nat :=
  match results.find? fun r => r.head.bay == b with
  | some r => r.steps
  | none => 0

/-- The four conditions of R94. -/
def Applies (s : State) (r : PassResult) : Prop :=
  (slotAt s r.head.slot).gen = r.head.gen ∧ HeadOf s r.head.bay r.head.slot
    ∧ (∃ o, orderAt s r.head.slot = some o ∧ o.state = r.head.state) ∧ (slotAt s r.head.slot).changeMark = false

/-- No snapshot of a pass in flight lists two heads of one bay (R77, R78). -/
def HeadsSound (s : State) : Prop := ∀ p ∈ s.pass, p.snap.heads.Pairwise fun x y => x.bay < y.bay

/-- The order of two ranked results (R87). -/
def RanksBefore (r q : PassResult) : Prop :=
  q.head.priority.code < r.head.priority.code
    ∨ (r.head.priority = q.head.priority
        ∧ (r.eval.slack < q.eval.slack ∨ (r.eval.slack = q.eval.slack ∧ r.head.bay < q.head.bay)))

/-- What the evaluation of a snapshot's head reads (R34). -/
def inputOf (snap : Snapshot) (h : SnapHead) : EvalInput :=
  { now := snap.now, state := h.state, departure := h.departure, target := h.target, band := h.band, kc := h.kc, u := h.u
    tele := snap.bays[h.bay].tele, lead := snap.lead }

/-- A result that takes part in the distribution (R87). -/
def TakesPart (r : PassResult) : Prop :=
  (r.newState = .active ∨ r.newState = .holding) ∧ 5 ≤ r.eval.demand ∧ r.reversing = false

/-- The two rounds over the ranked results of a snapshot, `first` giving each bay its steps after round 1: each order is
served out of what those before it in rank have left of the site budget and of its feeder's (R88 to R90). -/
def TwoRounds (snap : Snapshot) (ranked : List PassResult) (first : Fin 32 → Nat) : Prop :=
  ∀ before r after, ranked = before ++ r :: after →
    ∃ k : Fin 4, snap.bays[r.head.bay].feeder = some k
      ∧ (let held (q : PassResult) : Nat := heldCharge snap.bays[q.head.bay]
         let feeds (b : Fin 32) : Bool := decide (snap.bays[b].feeder = some k)
         let site := snap.site - (allBays.map fun b => heldCharge snap.bays[b]).sum
         let feeder := snap.feeders[k] - ((allBays.filter feeds).map fun b => heldCharge snap.bays[b]).sum
         let raise (q : PassResult) : Nat := if first q.head.bay = 5 then 5 - held q else 0
         let growth (q : PassResult) : Nat := max (held q) q.steps - max (held q) (first q.head.bay)
         let onFeeder (l : List PassResult) : List PassResult := l.filter fun q => feeds q.head.bay
         let siteLeft := site - (ranked.map raise).sum - (before.map growth).sum
         let feederLeft := feeder - ((onFeeder ranked).map raise).sum - ((onFeeder before).map growth).sum
         let free := held r - 5
         first r.head.bay =
             (if 5 - held r ≤ site - (before.map raise).sum ∧ 5 - held r ≤ feeder - ((onFeeder before).map raise).sum then 5
              else 0)
           ∧ r.steps =
             (if first r.head.bay = 5 then 5 + min (r.eval.demand - 5) (min (siteLeft + free) (feederLeft + free)) else 0))

/-- What the learning point of an order makes of the profile table (R66 to R68); `started` for an order that had started
before the pass. -/
def Learns (o : Order) (started : Bool) (now : Nat) (cabin : Option Int) (before after : List Profile) (learned : Bool) : Prop :=
  let sample (p : Profile) (a : Activation) (c : Int) : Prop :=
    started = true ∧ o.tag ≠ 0 ∧ before.find? (fun q => q.tag == o.tag) = some p ∧ p.pinned = false ∧ o.activation = some a
      ∧ cabin = some c ∧ 600 ≤ now - a.time ∧ 30 ≤ (c - a.cabin).natAbs ∧ a.loss * (now - a.time) / 3600 < o.energy
  (learned = true ∧ ∃ p a c, sample p a c
      ∧ (let dT := (c - a.cabin).natAbs
         let heat := o.energy - a.loss * (now - a.time) / 3600
         let observed := max 10 (min 250 ((heat * 20 + dT) / (2 * dT)))
         after =
          { p with
            kc := if p.samples = 0 then observed else (3 * p.kc + observed + 2) / 4
            samples := min 255 (p.samples + 1) } :: before.filter fun q => q.tag != o.tag))
    ∨ (learned = false ∧ after = before ∧ ∀ p a c, ¬sample p a c)

/-- The learning points of a publish one after the other, each on the table that those before it leave (R93); `learned` says
of each slot whether its sample updated a profile. -/
def LearnsInTurn (s : State) (now : Nat) (learned : Fin 48 → Bool) : List PassResult → List Profile → List Profile → Prop
  | [], before, after => after = before
  | r :: rest, before, after =>
    ∃ o between, orderAt s r.head.slot = some o
      ∧ Learns o r.head.started now r.eval.cabin before between (learned r.head.slot)
      ∧ LearnsInTurn s now learned rest between after

/-- An applied result that is its order's learning point (R65). -/
def AtLearningPoint (s : State) (r : PassResult) : Prop :=
  Applies s r ∧ r.head.state = .active ∧ r.newState = .holding ∧ (slotAt s r.head.slot).learnMark = false

/-! ### The bay link -/

/-- The GRANT of R187 for a bay's pending grant. -/
def grantOf (b : Fin 32) (g : Grant) : List Byte :=
  let body : List Byte := [BitVec.ofNat 8 b.val, 0x01, BitVec.ofNat 8 g.seq, BitVec.ofNat 8 g.mode.code, BitVec.ofNat 8 g.steps]
  body ++ [crc8 body]

/-- The next enabled bay from number `n` is polled with its pending grant (R124, R125). -/
def PollsNext (n : Nat) (s t : State) : Prop :=
  ∃ b : Fin 32, n ≤ b.val ∧ (bayAt s b).enabled = true ∧ (∀ a : Fin 32, n ≤ a.val → (bayAt s a).enabled = true → b ≤ a)
    ∧ t = { s with
        cycle := some (b.val + 1)
        exchange := some { bay := b, seqSent := (bayAt s b).pending.seq, age := 0, opening := false }
        grantFrame := grantOf b (bayAt s b).pending }

/-- No bay from number `n` up is enabled. -/
def WalkDone (n : Nat) (s : State) : Prop := ∀ a : Fin 32, n ≤ a.val → (bayAt s a).enabled = false

/-- The ALLSTOP of R189 for a bay list. -/
def allstopOf (list : Word) : List Byte :=
  let body : List Byte :=
    [0x3F, 0x03, list.extractLsb' 24 8, list.extractLsb' 16 8, list.extractLsb' 8 8, list.extractLsb' 0 8]
  body ++ [crc8 body]

/-- A waiting ALLSTOP begins when the line is free: no hold, no exchange and no ALLSTOP being sent; its request is cleared
(R127). Otherwise nothing begins. -/
def AllstopBegins (s t : State) : Prop :=
  let free := s.hold = none ∧ s.exchange = none ∧ s.sending = none
  (∀ list, s.allstop = some list → free →
      t = { s with allstop := none, allstopFrame := allstopOf list, sending := some 0 })
    ∧ (s.allstop = none ∨ ¬free → t = s)

/-- The cycle from number `n` (R123, R124, R127): an ALLSTOP being sent holds the walk, a waiting one begins, and otherwise the
next enabled bay is polled; when the walk is done a deferred cycle begins at once, and without one the cycle is over. -/
def GoesOn (n : Nat) (s t : State) : Prop :=
  let stops := s.sending ≠ none ∨ s.allstop ≠ none
  (stops → AllstopBegins { s with cycle := some n } t)
    ∧ (¬stops → ¬WalkDone n s → PollsNext n s t)
    ∧ (¬stops → WalkDone n s → s.deferred = false → t = { s with cycle := none })
    ∧ (¬stops → WalkDone n s → s.deferred = true → ¬WalkDone 0 s → PollsNext 0 { s with deferred := false } t)
    ∧ (¬stops → WalkDone 0 s → s.deferred = true → t = { s with deferred := false, cycle := none })

/-- The characters of a TELE (R188). -/
def teleChars (b : Fin 32) (echo connector : Byte) (tag : Word) (cabin outdoor : Half) (heat cool : Byte) (power : Half)
    (hvac : Byte) : List RxChar :=
  let body := [BitVec.ofNat 8 b.val, 0x02, echo, connector] ++ bytes32 tag ++ bytes16 cabin ++ bytes16 outdoor
    ++ [heat, cool] ++ bytes16 power ++ [hvac]
  (body ++ [crc8 body]).map .byte

/-- The reversal timer after a change of applied mode (R167). -/
def RestAfter (dead : Nat) (before after : Bay) : Prop :=
  (before.applied.mode ≠ .off → after.applied.mode = .off →
      after.reversal = some { mode := before.applied.mode, left := dead * 16000000 })
    ∧ (before.applied.mode = .off → after.applied.mode ≠ .off → after.reversal = none)
    ∧ (before.applied.mode = after.applied.mode → after.reversal = before.reversal)

/-- A reset of the part: the two reset events, SOFT_RESET, and the transfer that carries SOFT_RESET (R181, log 5). -/
def IsReset (c : Instr) : Prop :=
  (∃ curt, c = .powerOnReset curt ∨ c = .pinReset curt) ∨ c = .softReset
    ∨ ∃ bytes, c = .frameError bytes ∧ judgeFrame bytes = some (.command .softReset)

/-! ### Trips -/

/-- A set of causes holds a cause. -/
def inSet (set : CauseSet) : Cause → Bool
  | .cabinLimit => set.cabinLimit
  | .overdraw => set.overdraw
  | .hvacFault => set.hvacFault
  | .silent => set.silent

/-- The later causes after an arrival or a miss found the causes `found`: each joins the set, but for the first cause
(R160). -/
def laterCauses (first : Cause) (set : CauseSet) (found : List Cause) : CauseSet :=
  { cabinLimit := set.cabinLimit || decide (.cabinLimit ∈ found ∧ first ≠ .cabinLimit)
    overdraw := set.overdraw || decide (.overdraw ∈ found ∧ first ≠ .overdraw)
    hvacFault := set.hvacFault || decide (.hvacFault ∈ found ∧ first ≠ .hvacFault)
    silent := set.silent || decide (.silent ∈ found ∧ first ≠ .silent) }

/-- A head after an arrival found the selected causes `found`, in the order of R156 (R159, R160). -/
def afterCauses (now : Nat) (cabin : Option Int) (found : List Cause) (o : Order) : Order :=
  match found with
  | [] => o
  | c :: _ =>
    if o.state = .tripped then { o with trip := o.trip.map fun r => { r with later := laterCauses r.first r.later found } }
    else
      let none : CauseSet := { cabinLimit := false, overdraw := false, hvacFault := false, silent := false }
      { o with
        state := .tripped
        flags := { o.flags with reversing := false }
        trip := some { first := c, later := laterCauses c none found, time := now, cabin := cabin } }

/-! ### Curtailment -/

/-- The CURT filter when its filtered level is `level`: unchanged if it was, and with the line at that level if it has
changed (R149). -/
def seen (f : CurtFilter) (level : Bool) : CurtFilter :=
  if f.level = level then f else { line := level, level := level, since := 0 }

/-- The line state is the filtered level unless the part is held in reset, and the filter counts nothing while the line stands
at the filtered level (R148, R149). -/
def LineSound (s : State) : Prop :=
  (s.pins.held = false → s.lineState = s.curt.level) ∧ (s.curt.line = s.curt.level → s.curt.since = 0)

/-- A head that an arrival pauses: ACTIVE or HOLDING, and not URGENT (R151). -/
def Curtailed (s : State) (b : Fin 32) (i : Fin 48) (o : Order) : Prop :=
  HeadOf s b i ∧ orderAt s i = some o ∧ (o.state = .active ∨ o.state = .holding) ∧ o.priority ≠ .urgent

/-- A bay that the ALLSTOP of an arrival lists (R152). -/
def Listed (s : State) (b : Fin 32) : Prop :=
  (∃ i o, Curtailed s b i o)
    ∨ (0 < (bayAt s b).applied.steps
        ∧ ¬∃ i o, HeadOf s b i ∧ orderAt s i = some o ∧ (o.state = .active ∨ o.state = .holding) ∧ o.priority = .urgent)

/-- An expiry of the cycle timer has begun the exchange in progress, and no time has passed since (R123, log 22). -/
def Opening (s : State) : Prop := ∃ x, s.exchange = some x ∧ x.opening = true ∧ x.age = 0

/-- An ALLSTOP request for a list (R127): an empty one and one in a hold do nothing; otherwise the list joins a waiting one, and
begins at once on a free line. One that falls together with the expiry that has begun a cycle goes before the cycle's first
poll (R123). -/
def AllstopRequested (list : Word) (s t : State) : Prop :=
  (list = 0 ∨ s.hold ≠ none → t = s)
    ∧ (list ≠ 0 → s.hold = none →
        ∃ u : State, (Opening s → u = { s with cycle := some 0, exchange := none, grantFrame := [] }) ∧ (¬Opening s → u = s)
          ∧ AllstopBegins { u with allstop := some (s.allstop.getD 0 ||| list) } t)

/-- A curtailment arrival (R151, R152, R99): the pauses and zeroed grants, the ALLSTOP request, a new pass, the flag. -/
def Arrival (s t : State) : Prop :=
  ∃ (r v u : State) (list : Word),
    r = { s with slots := v.slots, bays := v.bays } ∧ AllstopRequested list r v
    ∧ (∀ i, (slotAt v i).gen = (slotAt s i).gen ∧ (slotAt v i).learnMark = (slotAt s i).learnMark)
    ∧ (∀ b i o, Curtailed s b i o → orderAt v i = some { o with state := .paused .curtail } ∧ bayAt v b = (bayAt s b).offer .off 0)
    ∧ (∀ i, (¬∃ b o, Curtailed s b i o) → orderAt v i = orderAt s i)
    ∧ (∀ b, (¬∃ i o, Curtailed s b i o) → bayAt v b = bayAt s b)
    ∧ (∀ b : Fin 32, list.getLsbD b.val = true ↔ Listed s b)
    ∧ PassStarts { v with pass := none, passMark := s.passMark && s.pass.isNone } u
    ∧ t = { u with flags := s.flags ||| 0x20 }

/-- A curtailment release (R153). -/
def Release (s t : State) : Prop := ∃ u, PassRequested s u ∧ t = { u with flags := s.flags ||| 0x20 }

/-- What a change of either source brings, `before` being the in-force state it found (R148). -/
def CurtailmentJudged (before : Bool) (s t : State) : Prop :=
  (before = false → (s.lineState || s.softCurtail) = true → Arrival s t)
    ∧ (before = true → (s.lineState || s.softCurtail) = false → Release s t)
    ∧ (before = (s.lineState || s.softCurtail) → t = s)

/-! ### The catalogue of commands -/

/-- Code and permitted payload lengths of each command (R182). -/
def catalogue : List (Byte × List Nat) :=
  [(0x00, [0]), (0x01, [0]), (0x02, [1]), (0x03, [1]), (0x04, [0]), (0x05, [4]), (0x06, [10]), (0x0F, [0]),
   (0x10, [14]), (0x11, [16]), (0x12, [2]), (0x13, [2]), (0x14, [3]), (0x15, [2]), (0x16, [3]), (0x17, [2, 6, 3]),
   (0x20, [4]), (0x21, [7]), (0x22, [4]), (0x30, [2]), (0x31, [2]), (0x32, [2]), (0x33, [2]), (0x34, [5]),
   (0x35, [3, 5, 7, 9, 11]), (0x36, [0]), (0x40, [4]), (0x41, [0]), (0x42, [1]), (0x50, [2]), (0x51, [1]), (0x52, [0])]

/-- The answer of check 5 to a payload of a known code (R182), or none when the payload passes. -/
def lengthAnswer (code : Byte) (payload : List Byte) : Option RespCode :=
  if code = 0x17 then
    match payload with
    | [] => some .badLength
    | kind :: _ =>
      if 2 < kind.toNat then some .badValue
      else if payload.length = (if kind = 0 then 2 else if kind = 1 then 6 else 3) then none
      else some .badLength
  else if code = 0x35 then
    match payload[2]? with
    | none => some .badLength
    | some count =>
      if 4 < count.toNat then some .badValue else if payload.length = 3 + 2 * count.toNat then none else some .badLength
  else if (catalogue.filter fun row => row.1 == code).any fun row => row.2.contains payload.length then none
  else some .badLength

/-! ### Quiet states -/

/-- Nothing comes due within one idle step of 640 crystal cycles. -/
def Quiet (s : State) : Prop :=
  s.pins.held = false ∧ s.phase + 640 < 16000000 ∧ (s.periodTimer = 0 ∨ 640 < s.periodTimer) ∧ 640 < s.cycleTimer ∧ (∀ n ∈ s.hold, 640 < n)
    ∧ (∀ x ∈ s.exchange, x.age + 640 < 67840) ∧ s.pass = none
    ∧ (s.load.state = .fresh → ∀ a ∈ s.load.age, a + 640 < s.tuning.stale * 16000000)
    ∧ (s.sending ≠ none ∨ s.allstop = none ∨ s.hold ≠ none ∨ s.exchange ≠ none) ∧ (∀ n ∈ s.sending, n + 640 < 4480)
    ∧ (s.curt.line = s.curt.level ∨ s.curt.since + 640 < 16000)
    ∧ ∀ b : Fin 32, (∀ n ∈ s.bays[b].lapse, 640 < n) ∧ ∀ r ∈ s.bays[b].reversal, 640 < r.left

/-- A state after 640 crystal cycles on the phase and on every timer, with nothing taken (R191). -/
def elapsed (s : State) : State :=
  { s with
    phase := s.phase + 640
    periodTimer := s.periodTimer - 640
    cycleTimer := s.cycleTimer - 640
    hold := s.hold.map fun n => n - 640
    exchange := s.exchange.map fun x => { x with age := x.age + 640 }
    sending := s.sending.map fun n => n + 640
    pass := s.pass.map fun p => { p with age := p.age + 640 }
    load := { s.load with age := s.load.age.map fun a => a + 640 }
    curt := if s.curt.line = s.curt.level then s.curt else { s.curt with since := s.curt.since + 640 }
    bays := Vector.ofFn fun b : Fin 32 =>
      { s.bays[b] with
        lapse := s.bays[b].lapse.map fun n => n - 640
        reversal := s.bays[b].reversal.map fun r => { r with left := r.left - 640 } } }

/-- The events that come due within one idle step of 640 crystal cycles, as rows of the table. -/
def ComesDue (s : State) : Instr → Prop
  | .clockAdvance => 16000000 ≤ s.phase + 640
  | .periodTimerExpiry => 0 < s.periodTimer ∧ s.periodTimer ≤ 640
  | .cycleTimerExpiry => s.cycleTimer ≤ 640
  | .linkResetHoldEnd => ∃ n, s.hold = some n ∧ n ≤ 640
  | .replyWindowClose chars => chars = [] ∧ ∃ x, s.exchange = some x ∧ 67840 ≤ x.age + 640
  | .publish => ∃ p, s.pass = some p ∧ 320000 ≤ p.age + 640
  | .loadStaleTransition => s.load.state = .fresh ∧ ∃ a, s.load.age = some a ∧ s.tuning.stale * 16000000 ≤ a + 640
  | .allstop =>
    (∃ n, s.sending = some n ∧ 4480 ≤ n + 640) ∨ (s.sending = none ∧ s.allstop ≠ none ∧ s.hold = none ∧ s.exchange = none)
  | .curtLineChange level => level = s.curt.line ∧ s.curt.line ≠ s.curt.level ∧ 16000 ≤ s.curt.since + 640
  | .lapse b => ∃ n, s.bays[b].lapse = some n ∧ n ≤ 640
  | .reversalTimerExpiry b => ∃ r, s.bays[b].reversal = some r ∧ r.left ≤ 640
  | _ => False

/-- An event that came due still has its subject: one taken before it may have moved its timer (R21, R116, R131, R132, R142).
An expiry of the period timer stays a request (R74). -/
def DueStill (s : State) : Instr → Prop
  | .clockAdvance | .cycleTimerExpiry | .periodTimerExpiry => True
  | .linkResetHoldEnd => s.hold = some 0
  | .replyWindowClose _ => ∃ x, s.exchange = some x ∧ 67840 ≤ x.age
  | .publish => ∃ p, s.pass = some p ∧ 0 < p.age
  | .loadStaleTransition => s.load.state = .fresh ∧ ∃ a, s.load.age = some a ∧ s.tuning.stale * 16000000 ≤ a
  | .allstop =>
    (∃ n, s.sending = some n ∧ 4480 ≤ n) ∨ (s.sending = none ∧ s.allstop ≠ none ∧ s.hold = none ∧ s.exchange = none)
  | .curtLineChange _ => s.curt.line ≠ s.curt.level ∧ 16000 ≤ s.curt.since
  | .lapse b => s.bays[b].lapse = some 0
  | .reversalTimerExpiry b => ∃ r, s.bays[b].reversal = some r ∧ r.left = 0
  | _ => False

/-- The events of a list taken one after the other, those left out that no longer have their subject. -/
def TakenInTurn : List Instr → State → State → Prop
  | [], s, t => t = s
  | d :: rest, s, t =>
    ∃ u, (DueStill s d → exec d s = .next u) ∧ (¬DueStill s d → u = s) ∧ TakenInTurn rest u t

/-! ### Lines -/

/-- The edges that clock bits in and out, SCLK resting low. -/
def clocks (bits : List Bool) : List PinEdge := bits.flatMap fun b => [.sclkRise b, .sclkFall]

/-- The whole bytes of a row of bits, most significant bit first, fewer than eight bits left over (R171). -/
def AssembledAs (bits : List Bool) (bytes : List Byte) : Prop :=
  bytes.length = bits.length / 8
    ∧ ∀ (k : Nat) (b : Byte), bytes[k]? = some b → ∀ j, j < 8 → bits[8 * k + j]? = some (b.getLsbD (7 - j))

/-- An edge of the port's own lines. -/
def PortEdge (e : PinEdge) : Prop := e = .csFall ∨ e = .csRise ∨ e = .sclkFall ∨ ∃ mosi, e = .sclkRise mosi

/-- BL_DE and BL_TX in bit time `n` of a frame: each byte a start bit at spacing, its bits least significant first, and a
stop bit at marking, back to back; the driver is off when the frame is over (R117, R186). -/
def ShowsFrame (frame : List Byte) (n : Nat) (level : LinkLevel) : Prop :=
  (10 * frame.length ≤ n → level = { de := false, tx := true })
    ∧ ∀ (m : Nat) (b : Byte), frame[m]? = some b →
        (n = 10 * m → level = { de := true, tx := false })
        ∧ (∀ j, j < 8 → n = 10 * m + 1 + j → level = { de := true, tx := b.getLsbD j })
        ∧ (n = 10 * m + 9 → level = { de := true, tx := true })

/-- A character on BL_RX after a gap of marking bits, its stop bit at the level given (R117, R186). -/
def charAfterGap (gap : Nat) (b : Byte) (stop : Bool) : List Bool :=
  List.replicate gap true ++ [false, b.getLsbD 0, b.getLsbD 1, b.getLsbD 2, b.getLsbD 3, b.getLsbD 4, b.getLsbD 5, b.getLsbD 6,
    b.getLsbD 7, stop]

/-! ### The port between steps -/

/-- The prepared response as R172 and R179 bound it, and no frame half received between transfers. -/
def PortSound (s : State) : Prop :=
  s.response.payload.length ≤ 60 ∧ (s.response.code ≠ .ok → s.response.payload = [])
    ∧ (receiving s = false → s.rx = .empty)

end Sys2Proof.Safety
end

