-- ==== Sys2Proof/WellFormed.lean ====
section
/-! DEFINITION. Which terms of Instr are events or commands of the part. Every term has a meaning; these are the
terms that stand for what their row says. -/

namespace Sys2Proof

/-- REPORT_LOAD lists as many feeder loads as its count says, at most 4 (R112, R182). -/
def reportLoadWF (count : Byte) (loads : List Half) : Bool :=
  decide (count.toNat ≤ 4) && decide (loads.length = count.toNat)

/-- The transfer of a FRAME_ERROR holds at least one whole byte and fails a check of R176. -/
def frameErrorWF (bytes : List Byte) : Bool :=
  match judgeFrame bytes with
  | some (.error _) => true
  | _ => false

/-- Well-formed commands and events. -/
def Instr.wellFormed : Instr → Bool
  | .reportLoad _ count loads => reportLoadWF count loads
  | .frameError bytes => frameErrorWF bytes
  | .nop | .status | .clearStatus _ | .setAttnMask _ | .readClock | .setClock _ | .setTuning _ _ _ _ _ _ | .softReset
  | .openOrder _ _ _ _ _ _ _ | .amend _ _ _ _ _ _ _ _ | .lock _ | .unlock _ | .close _ _ | .retire _ | .lookup _ _
  | .findByBay _ | .findByTag _ _ | .findByState _ _ | .profileRead _ | .profilePreset _ _ _ _ | .profileDrop _
  | .setCeiling _ | .setWorkingCap _ | .setCurtailCap _ | .setFallbackCap _ | .setFeeder _ _ _ _ | .readBudget
  | .enableBays _ | .linkReset | .readBay _ | .rearm _ | .curtail _ | .allocateNow | .shortTransfer | .powerOnReset _
  | .pinReset _ | .curtLineChange _ | .allstop | .clockAdvance | .periodTimerExpiry | .publish | .cycleTimerExpiry
  | .replyWindowClose _ | .linkResetHoldEnd | .lapse _ | .reversalTimerExpiry _ | .loadStaleTransition => true

end Sys2Proof
end

