-- ==== Sys2Proof/Certificates/Slice0/Obligations.lean ====
section
/-! DEFINITION. The statements about this model, block by block. Each docstring names the rule a statement formalises; a
statement that rests on a choice of the model names the log entry. -/

open Sys2Proof Sys2Proof.Machine Sys2Proof.Safety

/-! ### The queue of commands, and time -/

/-- A step runs the command at the front of the queue on the state with the queue's rest. -/
def Obligations.StepRunsFrontCommand : Prop :=
  ∀ (c : Instr) (rest : List Instr) (s : State), s.pending = c :: rest → step s = exec c { s with pending := rest }

/-- On an empty queue with nothing due, 640 crystal cycles elapse on the phase and on every timer and nothing else changes;
with one event due in that time (a completed second, an expiry, the end of a hold or a reply window, a lapse, the bound of a
pass, a load record turning STALE, a waiting ALLSTOP, a CURT level that has stood for 1 ms) the step is that event's row on the
state after those cycles. With several due, or a pass in flight, their rows are taken one after the other in some order, one
that has lost its subject left out, and a pass may publish before its bound. A part held in reset stands still but for the CURT
filter (logs 2, 3, 9 and 12: the model's idle step). -/
def Obligations.IdleStepPassesTime : Prop :=
  ∀ s : State, s.pending = [] →
    (s.pins.held = true →
      (let f := (elapsed s).curt
       step s = .next { s with curt := if f.line ≠ f.level ∧ 16000 ≤ f.since then seen f f.line else f }))
    ∧ (s.pins.held = false → ∃ (order : List Instr) (t : State), step s = .next t
        ∧ order.Nodup ∧ (∀ d, d ≠ .publish → (d ∈ order ↔ ComesDue s d))
        ∧ (ComesDue s .publish → .publish ∈ order) ∧ (.publish ∈ order → s.pass ≠ none)
        ∧ TakenInTurn order { elapsed s with freeIndex := s.freeIndex + order.length + 1 } t)
    ∧ (Quiet s → step s = .next { elapsed s with freeIndex := s.freeIndex + 1 })
    ∧ ∀ c : Instr, s.pins.held = false → (s.pass = none ∨ c = .publish) → (∀ d, ComesDue s d ↔ d = c) →
        step s = exec c { elapsed s with freeIndex := s.freeIndex + 2 }

/-! ### Control port -/

/-- Every command of the port, framed with its CRC and followed by any filler, is judged to be that command (R174). -/
def Obligations.FrameRoundTrip : Prop :=
  ∀ (i : Instr) (frame filler : List Byte), i.wellFormed = true → encodeFrame i = some frame →
    judgeFrame (frame ++ filler) = some (.command i)

/-- The other direction: bytes judged to be a command are the frame of that command with filler, the command is
well-formed, and taking those bytes as a transfer executes it. A transfer at the pins, whatever bits are clocked in, adds one
row to the queue: that of its whole bytes, most significant bit first, leftover bits discarded (R171; the queue is log 5). -/
def Obligations.AcceptedFramesAreEncodings : Prop :=
  (∀ (bytes : List Byte) (i : Instr), judgeFrame bytes = some (.command i) →
    i.wellFormed = true ∧ (∃ frame filler, encodeFrame i = some frame ∧ bytes = frame ++ filler)
      ∧ ∀ s, exec (.frameError bytes) s = exec i s)
  ∧ ∀ (bits : List Bool) (bytes : List Byte) (s : State), s.pins.held = false → s.pins.cs = .high → AssembledAs bits bytes →
    ∃ row : Instr,
      pinEdges (.csFall :: clocks bits ++ [.csRise]) s
        = { s with
            pending := s.pending ++ [row], rx := .empty
            pins := { supply := .over, resetN := .over, cs := .high, inBits := [], driven := 0, rose := false } }
      ∧ row.wellFormed = true ∧ (bytes = [] → row = .shortTransfer)
      ∧ (∀ i, judgeFrame bytes = some (.command i) → row = i)
      ∧ (bytes ≠ [] → ∀ u, exec row u = exec (.frameError bytes) u)

/-- The checks of R176 in their order, check 5 as R182 gives it, on a transfer of at least one whole byte. -/
def Obligations.FrameJudging : Prop :=
  ∀ (code n : Byte) (rest : List Byte) (s : State),
    exec (.frameError [code]) s = .next (refuse .badLength s)
    ∧ (44 < n.toNat ∨ rest.length < n.toNat + 1 → exec (.frameError (code :: n :: rest)) s = .next (refuse .badLength s))
    ∧ ∀ (payload filler : List Byte) (crc : Byte), n.toNat ≤ 44 → payload.length = n.toNat → rest = payload ++ crc :: filler →
        (crc ≠ crc8 (code :: n :: payload) → exec (.frameError (code :: n :: rest)) s = .next (refuse .crcError s))
        ∧ (crc = crc8 (code :: n :: payload) →
            ((∀ row ∈ catalogue, row.1 ≠ code) → exec (.frameError (code :: n :: rest)) s = .next (refuse .badCommand s))
            ∧ ((∃ row ∈ catalogue, row.1 = code) →
                (∀ a, lengthAnswer code payload = some a → exec (.frameError (code :: n :: rest)) s = .next (refuse a s))
                ∧ (lengthAnswer code payload = none →
                    ∃ i, encodePayload i = some (code, payload) ∧ exec (.frameError (code :: n :: rest)) s = exec i s)))

/-- NOP prepares NONE and changes nothing else; a NOP frame whose declared length is not 0 is answered BAD_LENGTH, one whose
CRC fails CRC_ERROR (R180). A transfer without a whole byte changes nothing, so that the next one shifts the same response
out again (R177). -/
def Obligations.NopAndShortTransfer : Prop :=
  ∀ s : State,
    exec .nop s = .next { s with response := { code := .nothing, payload := [] }, rx := .empty }
    ∧ (∀ p : List Byte, p ≠ [] → p.length ≤ 44 → exec (.frameError (frameOf 0x00 p)) s = .next (refuse .badLength s))
    ∧ (∀ (n : Byte) (p : List Byte), 44 < n.toNat → exec (.frameError (0x00 :: n :: p)) s = .next (refuse .badLength s))
    ∧ (∀ (n crc : Byte) (p : List Byte), p.length = n.toNat → n.toNat ≤ 44 → crc ≠ crc8 (0x00 :: n :: p) →
        exec (.frameError (0x00 :: n :: (p ++ [crc]))) s = .next (refuse .crcError s))
    ∧ ∃ t, exec .shortTransfer s = .next t ∧ t = s ∧ ∀ n, misoBytes t n = misoBytes s n

/-- The bytes a transfer of n bytes shifts out: status code, length, payload, CRC-8 of those, then 0x00 (R173, R179); their
bits on MISO, most significant first, one after each clock, and MISO high-impedance outside a transfer (R171); and the check
values of the CRC-8 that the spec lists (R175). -/
def Obligations.ResponseFrameBytes : Prop :=
  (∀ (s : State) (n : Nat), s.response.payload.length ≤ 60 →
    ∃ (len : Byte) (body : List Byte), len.toNat = s.response.payload.length
      ∧ body = s.response.code.toByte :: len :: s.response.payload
      ∧ (misoBytes s n).length = n
      ∧ ∀ k, k < n → (misoBytes s n)[k]? = some (((body ++ [crc8 body])[k]?).getD 0x00))
  ∧ (∀ s : State, s.pins.cs ≠ .low → misoLevel s = none)
  ∧ (∀ (s : State) (bits : List Bool) (b : Byte), s.pins.held = false → s.pins.cs = .high →
      (misoBytes s (bits.length / 8 + 1))[bits.length / 8]? = some b →
      misoLevel (pinEdges (.csFall :: clocks bits) s) = some (b.getLsbD (7 - bits.length % 8)))
  ∧ ∀ row ∈ ([([0x00, 0x00], 0x41), ([0x01, 0x00], 0x0D), ([0x02, 0x00], 0xD9), ([0x03, 0x00], 0x95), ([0x04, 0x00], 0x6C),
        ([0x07, 0x00], 0xB8), ([0x0F, 0x00], 0xE2), ([0x31, 0x32, 0x33, 0x34, 0x35, 0x36, 0x37, 0x38, 0x39], 0xB4)] :
        List (List Byte × Byte)), crc8 row.1 = row.2

/-- Every step, and every edge at the pins, keeps the prepared response within 60 payload bytes, empty for every code but OK,
and no frame half received outside a transfer (R172, R179); and it keeps the line state at the filtered CURT level outside a
reset (R148, R149). -/
def Obligations.PortStaysSound : Prop :=
  (∀ s t : State, QueuesSound s → PortSound s → step s = .next t → PortSound t)
  ∧ (∀ (s : State) (e : PinEdge), PortSound s → PortSound (pinEdge e s))
  ∧ (∀ s t : State, LineSound s → step s = .next t → LineSound t)
  ∧ ∀ (s : State) (e : PinEdge), LineSound s → LineSound (pinEdge e s)

/-! ### Depot clock and attention -/

/-- STATUS (R198) and READ_CLOCK (R193): their fields, and nothing changed. -/
def Obligations.StatusAndClockReads : Prop :=
  ∀ s : State,
    Answers .status s s [1, 1, 1, 4]
      [s.flags.toNat, (s.lineState || s.softCurtail).toNat, (decide (s.ceiling ≠ 0)).toNat, s.clock]
    ∧ Answers .readClock s s [4] [s.clock]

/-- CLEAR_STATUS clears the flags named and no others and answers what is left (R199); SET_ATTN_MASK stores its mask whole;
ATTN_N is asserted while a set flag has its mask bit set, and released while the part is held in reset; the mask after each
reset (R200, R201). -/
def Obligations.FlagsMaskAndAttentionLine : Prop :=
  ∀ (named mask : Byte) (curt : Bool) (s : State),
    (∃ left : Byte, (∀ k, k < 8 → left.getLsbD k = (s.flags.getLsbD k && !named.getLsbD k))
      ∧ exec (.clearStatus named) s = .next (answer .ok [left] { s with flags := left }))
    ∧ exec (.setAttnMask mask) s = .next (answer .ok [mask] { s with mask := mask })
    ∧ (attnAsserted s = true ↔ ∃ k, k < 8 ∧ s.flags.getLsbD k = true ∧ s.mask.getLsbD k = true)
    ∧ (attnLine s = true ↔ s.pins.held = false ∧ ∃ k, k < 8 ∧ s.flags.getLsbD k = true ∧ s.mask.getLsbD k = true)
    ∧ (∃ t, exec (.powerOnReset curt) s = .next t ∧ t.mask = 0xFF)
    ∧ (∃ t, exec (.pinReset curt) s = .next t ∧ t.mask = 0xFF)
    ∧ (∃ t, exec .softReset s = .next t ∧ t.mask = s.mask)

/-- Each change of the clock closes every live order departing at or before the new value, with the outcome of R28 and the
record of R11; the orders of a bay leave its queue together and the earliest left is promoted (R27). A completed second
that finds the count saturated restarts the phase and does nothing else (R190). -/
def Obligations.ClockChangesCloseExpiredOrders : Prop :=
  (∀ s : State, s.clock = 4294967295 → exec .clockAdvance s = .next { s with phase := 0 })
  ∧ ∀ (c : Instr) (now : Nat) (s : State), QueuesSound s →
    (∃ v : Word, c = .setClock v ∧ now = v.toNat) ∨ (c = .clockAdvance ∧ s.clock < 4294967295 ∧ now = s.clock + 1) →
    ∃ t, exec c s = .next t ∧ t.clock = now ∧ t.phase = 0
      ∧ (∀ i o, orderAt s i = some o → o.state ≠ .closed → o.departure ≤ now →
          ∃ kind, orderAt t i = some (closedAs now ((bayAt s o.bay).tele.map (·.cabin)) kind o)
            ∧ FirstOf [(o.state = .tripped, OutcomeKind.tripped), (o.state = .holding, .ready), (o.started = true, .short)]
                .absent kind)
      ∧ (∀ i o, orderAt s i = some o → o.state = .closed ∨ now < o.departure →
          orderAt t i = some (reheaded s t o.bay i o)
          ∧ (slotAt t i).changeMark = ((slotAt s i).changeMark || headChanged s t o.bay i))
      ∧ (∀ i o, orderAt s i = some o → o.state ≠ .closed → o.departure ≤ now →
          (slotAt t i).changeMark = (slotAt s i).changeMark)
      ∧ (∀ i, orderAt s i = none → orderAt t i = none ∧ (slotAt t i).changeMark = (slotAt s i).changeMark)
      ∧ (∀ i, (slotAt t i).gen = (slotAt s i).gen ∧ (slotAt t i).learnMark = (slotAt s i).learnMark)
      ∧ (∀ b, queueAt t b = (queueAt s b).filter fun i => decide (now < departureAt s i))
      ∧ (∀ b i, HeadOf s b i → departureAt s i ≤ now → bayAt t b = (bayAt s b).offer .off 0)
      ∧ (∀ b, (∀ i, HeadOf s b i → now < departureAt s i) → bayAt t b = bayAt s b)
      ∧ ((∃ i o, orderAt s i = some o ∧ o.state ≠ .closed ∧ o.departure ≤ now) → t.flags = s.flags ||| 0x01)
      ∧ ((∀ i o, orderAt s i = some o → o.state = .closed ∨ now < o.departure) → t.flags = s.flags)
      ∧ t = { s with
          clock := now, phase := 0, slots := t.slots, queues := t.queues, bays := t.bays, flags := t.flags
          response := if c = .clockAdvance then s.response else { code := .ok, payload := [] }
          rx := if c = .clockAdvance then s.rx else .empty }

/-- SET_TUNING stores six values, each clamped to its range of R194, and answers them (R195); a FRESH load record at or
above the new load stale time turns STALE at once with LOAD_STALE raised (R113). -/
def Obligations.TuningWritten : Prop :=
  ∀ (period dead lead stale : Half) (selection band : Byte) (s : State),
    let tuning : Tuning :=
      { period := max 5 (min 60 period.toNat), dead := max 30 (min 600 dead.toNat), lead := max 600 (min 7200 lead.toNat)
        stale := max 5 (min 300 stale.toNat)
        selection := { cabinLimit := selection.getLsbD 0, overdraw := selection.getLsbD 1, hvacFault := selection.getLsbD 2
                       silent := selection.getLsbD 3 }
        band := max 3 (min 30 band.toNat) }
    let turns := ∃ a, s.load.state = .fresh ∧ s.load.age = some a ∧ tuning.stale * 16000000 ≤ a
    let stored := [tuning.period, tuning.dead, tuning.lead, tuning.stale, selection.toNat % 16, tuning.band]
    (turns →
        Answers (.setTuning period dead lead stale selection band) s
          { s with tuning := tuning, load := { s.load with state := .stale }, flags := s.flags ||| 0x10 }
          [2, 2, 2, 2, 1, 1] stored)
    ∧ (¬turns →
        Answers (.setTuning period dead lead stale selection band) s { s with tuning := tuning } [2, 2, 2, 2, 1, 1] stored)

/-! ### Orders -/

/-- OPEN is refused by the first check of R13 that fails. -/
def Obligations.OpenChecksInOrder : Prop :=
  ∀ (bay : Byte) (tag departure : Word) (target : Half) (band priority options : Byte) (s : State), QueuesSound s →
    JudgedBy (.openOrder bay tag departure target band priority options) s
      [(31 < bay.toNat ∨ 2 < priority.toNat, .badValue),
       (departure.toNat < s.clock + 60 ∨ s.clock + 604800 < departure.toNat, .badTime),
       (∀ i : Fin 48, orderAt s i ≠ none, .tableFull),
       (∃ b : Fin 32, b.val = bay.toNat ∧ 3 ≤ (queueAt s b).length, .queueFull),
       (∃ b : Fin 32, b.val = bay.toNat
          ∧ ((∃ i o, LiveOrder s b i o ∧ distance o.departure departure.toNat < 900)
            ∨ ∃ i o, HeadOf s b i ∧ orderAt s i = some o ∧ (o.started = true ∨ o.state = .tripped)
                ∧ departure.toNat < o.departure), .conflict)]

/-- An OPEN that passes its checks creates the record of R14 in the lowest empty slot (R6), in its place in the queue, and
answers its handle; it leads the queue as PLANNED, or waits as QUEUED, and a former head is displaced (R15). -/
def Obligations.OpenCreatesOrder : Prop :=
  ∀ (bay : Byte) (tag departure : Word) (target : Half) (band priority options : Byte) (s : State) (b : Fin 32)
    (p : Priority) (i : Fin 48), QueuesSound s → OpenPasses s bay priority departure b p i →
    ∃ (t : State) (noProfile : Bool) (state : OrderState),
      exec (.openOrder bay tag departure target band priority options) s = .next t
      ∧ t.response = { code := .ok, payload := [BitVec.ofNat 8 i.val, (slotAt s i).gen] }
      ∧ orderAt t i = some
          { bay := b, tag := tag, departure := departure.toNat, target := max 160 (min 280 target.toInt)
            band := if options.getLsbD 1 then max 3 (min 30 band.toNat) else s.tuning.band
            priority := p, locked := options.getLsbD 0, state := state, started := false, activation := none
            energy := 0, remainder := 0, figures := none
            flags := { shortfall := false, starved := false, reversing := false, noProfile := noProfile, learned := false }
            trip := none, outcome := none }
      ∧ ((∀ j o, LiveOrder s b j o → departure.toNat < o.departure) → state = .planned)
      ∧ (¬(∀ j o, LiveOrder s b j o → departure.toNat < o.departure) → state = .queued)
      ∧ (tag = 0 → noProfile = false)
      ∧ (slotAt t i).gen = (slotAt s i).gen ∧ (slotAt t i).learnMark = false
      ∧ Placed s t b i
      ∧ (∀ a, a ≠ b → queueAt t a = queueAt s a)
      ∧ (∀ j, j ≠ i → orderAt t j = (orderAt s j).map (reheaded s t b j) ∧ (slotAt t j).gen = (slotAt s j).gen
          ∧ (slotAt t j).learnMark = (slotAt s j).learnMark
          ∧ (slotAt t j).changeMark = ((slotAt s j).changeMark || headChanged s t b j))
      ∧ t = { s with response := t.response, rx := .empty, slots := t.slots, queues := t.queues, profiles := t.profiles }

/-- The profile table is consulted for the tag of an OPEN that passes its checks, and for the new tag of an AMEND that
changes an order's tag, after the order stopped referencing its former profile: found, created, or none (R59, R60). -/
def Obligations.ConsultationAtOpenAndAmend : Prop :=
  (∀ (bay : Byte) (tag departure : Word) (target : Half) (band priority options : Byte) (s : State) (b : Fin 32)
      (p : Priority) (i : Fin 48), QueuesSound s → ProfilesSound s → OpenPasses s bay priority departure b p i →
      ∃ t o, exec (.openOrder bay tag departure target band priority options) s = .next t ∧ orderAt t i = some o
        ∧ Consults s tag t.profiles o.flags.noProfile)
  ∧ ∀ (h : WireHandle) (force changes : Byte) (departure : Word) (target : Half) (band priority : Byte) (tag : Word)
      (s : State) (i : Fin 48) (o : Order), QueuesSound s → ProfilesSound s →
      AmendPasses s h force changes departure priority tag i o →
      ∃ t o', exec (.amend h force changes departure target band priority tag) s = .next t ∧ orderAt t i = some o'
        ∧ (changes.getLsbD 4 = true → tag ≠ o.tag →
            Consults (setSlot s i { slotAt s i with order := some { o with tag := tag } }) tag t.profiles o'.flags.noProfile)
        ∧ (changes.getLsbD 4 = false ∨ tag = o.tag → t.profiles = s.profiles ∧ o'.flags.noProfile = o.flags.noProfile)

/-- AMEND is refused by the first check of R16 that fails, CONFLICT as R17 tests it. -/
def Obligations.AmendChecksInOrder : Prop :=
  ∀ (h : WireHandle) (force changes : Byte) (departure : Word) (target : Half) (band priority : Byte) (tag : Word)
    (s : State), QueuesSound s →
    JudgedBy (.amend h force changes departure target band priority tag) s
      [(changes.getLsbD 3 = true ∧ 2 < priority.toNat, .badValue),
       (¬∃ i o, Names s h i o, .noOrder),
       (∃ i o, Names s h i o ∧ o.state = .closed, .closed),
       (∃ i o, Names s h i o ∧ o.locked = true ∧ force = 0, .locked),
       (∃ i o, Names s h i o ∧ changes.getLsbD 4 = true ∧ tag ≠ o.tag ∧ o.started = true, .started),
       (changes.getLsbD 0 = true ∧ (departure.toNat < s.clock + 60 ∨ s.clock + 604800 < departure.toNat), .badTime),
       (changes.getLsbD 0 = true ∧ ∃ i o, Names s h i o ∧ AmendConflicts s i o departure.toNat, .conflict)]

/-- A successful AMEND writes the named fields, clamped, clears the lock under FORCE, keeps every other field, and re-sorts
the queue when the departure changed, with promotion and displacement as R9 gives (R18). -/
def Obligations.AmendWritesNamedFields : Prop :=
  ∀ (h : WireHandle) (force changes : Byte) (departure : Word) (target : Half) (band priority : Byte) (tag : Word)
    (s : State) (i : Fin 48) (o : Order), QueuesSound s → AmendPasses s h force changes departure priority tag i o →
    ∃ (t : State) (noProfile : Bool) (p : Priority),
      exec (.amend h force changes departure target band priority tag) s = .next t
      ∧ t.response = { code := .ok, payload := [] }
      ∧ (changes.getLsbD 3 = true → p.code = priority.toNat)
      ∧ (changes.getLsbD 3 = false → p = o.priority)
      ∧ orderAt t i = some (reheaded s t o.bay i
          { o with
            departure := if changes.getLsbD 0 then departure.toNat else o.departure
            target := if changes.getLsbD 1 then max 160 (min 280 target.toInt) else o.target
            band := if changes.getLsbD 2 then max 3 (min 30 band.toNat) else o.band
            priority := p
            tag := if changes.getLsbD 4 then tag else o.tag
            locked := o.locked && decide (force = 0)
            flags := { o.flags with noProfile := noProfile } })
      ∧ (changes.getLsbD 0 = true ∧ departure.toNat ≠ o.departure → Placed s t o.bay i)
      ∧ (changes.getLsbD 0 = false ∨ departure.toNat = o.departure → queueAt t o.bay = queueAt s o.bay)
      ∧ (∀ a, a ≠ o.bay → queueAt t a = queueAt s a)
      ∧ (∀ j, j ≠ i → orderAt t j = (orderAt s j).map (reheaded s t o.bay j))
      ∧ (∀ j, (slotAt t j).gen = (slotAt s j).gen ∧ (slotAt t j).learnMark = (slotAt s j).learnMark
          ∧ (slotAt t j).changeMark = ((slotAt s j).changeMark || headChanged s t o.bay j))
      ∧ t = { s with response := t.response, rx := .empty, slots := t.slots, queues := t.queues, profiles := t.profiles }

/-- LOCK, UNLOCK, CLOSE, RETIRE and LOOKUP resolve their handle (R5) and apply their checks in order. -/
def Obligations.HandleCommandChecks : Prop :=
  ∀ (h : WireHandle) (force part : Byte) (s : State),
    JudgedBy (.lock h) s [(¬∃ i o, Names s h i o, .noOrder), (∃ i o, Names s h i o ∧ o.state = .closed, .closed)]
    ∧ JudgedBy (.unlock h) s [(¬∃ i o, Names s h i o, .noOrder), (∃ i o, Names s h i o ∧ o.state = .closed, .closed)]
    ∧ JudgedBy (.close h force) s
        [(¬∃ i o, Names s h i o, .noOrder), (∃ i o, Names s h i o ∧ o.state = .closed, .closed),
         (∃ i o, Names s h i o ∧ o.locked = true ∧ force = 0, .locked)]
    ∧ JudgedBy (.retire h) s [(¬∃ i o, Names s h i o, .noOrder), (∃ i o, Names s h i o ∧ o.state ≠ .closed, .notClosed)]
    ∧ JudgedBy (.lookup h part) s [(2 < part.toNat, .badValue), (¬∃ i o, Names s h i o, .noOrder)]
    ∧ ∀ (i j : Fin 48) (o q : Order), Names s h i o → Names s h j q → i = j ∧ o = q

/-- LOCK and UNLOCK write the locked field of a live order and nothing else (R20); RETIRE empties the slot of a CLOSED
order and advances its generation, 255 to 0, after which the handle names no order (R22, R4). -/
def Obligations.LockUnlockRetire : Prop :=
  ∀ (h : WireHandle) (s : State) (i : Fin 48) (o : Order), Names s h i o →
    (o.state ≠ .closed →
      Answers (.lock h) s (setSlot s i { slotAt s i with order := some { o with locked := true } }) [] []
      ∧ Answers (.unlock h) s (setSlot s i { slotAt s i with order := some { o with locked := false } }) [] [])
    ∧ (o.state = .closed → ∃ t gen, exec (.retire h) s = .next (answer .ok [] t)
        ∧ t = setSlot s i { slotAt s i with gen := gen, learnMark := false, order := none }
        ∧ gen.toNat = (if (slotAt s i).gen.toNat = 255 then 0 else (slotAt s i).gen.toNat + 1)
        ∧ ¬∃ j q, Names t h j q)

/-- A CLOSE that passes its checks closes the order ENDED (R21) as R10 gives: the outcome record of R11, the lock cleared
under FORCE, the order out of its queue, the pending grant of its bay OFF/0 if it was the head, the next order promoted,
ORDER_CLOSED raised; nothing else changes. -/
def Obligations.CloseEndsTheOrder : Prop :=
  ∀ (h : WireHandle) (force : Byte) (s : State) (i : Fin 48) (o : Order), QueuesSound s → Names s h i o →
    o.state ≠ .closed → (o.locked = true → force ≠ 0) →
    ∃ t, exec (.close h force) s = .next t ∧ t.response = { code := .ok, payload := [] }
      ∧ orderAt t i = some (closedAs s.clock ((bayAt s o.bay).tele.map (·.cabin)) .ended
          { o with locked := o.locked && decide (force = 0) })
      ∧ queueAt t o.bay = (queueAt s o.bay).filter (fun j => j != i)
      ∧ (∀ a, a ≠ o.bay → queueAt t a = queueAt s a)
      ∧ (∀ j, j ≠ i → orderAt t j = (orderAt s j).map (reheaded s t o.bay j)
          ∧ (slotAt t j).changeMark = ((slotAt s j).changeMark || headChanged s t o.bay j))
      ∧ (slotAt t i).changeMark = (slotAt s i).changeMark
      ∧ (∀ j, (slotAt t j).gen = (slotAt s j).gen ∧ (slotAt t j).learnMark = (slotAt s j).learnMark)
      ∧ (HeadOf s o.bay i → bayAt t o.bay = (bayAt s o.bay).offer .off 0)
      ∧ (¬HeadOf s o.bay i → bayAt t o.bay = bayAt s o.bay)
      ∧ (∀ a, a ≠ o.bay → bayAt t a = bayAt s a)
      ∧ t = { s with
          response := t.response, rx := .empty, slots := t.slots, queues := t.queues, bays := t.bays, flags := s.flags ||| 0x01 }

/-- LOOKUP returns the part asked for, field by field, an absent optional part as zeros behind presence byte 0 (R23, R185),
and changes nothing. The codes of its fields, and of those of every other response and of the flags, are those of the tables
of R184 and of the response codes. That the zeros reach as far as the absent part's own fields is the model's reading
(log 21). -/
def Obligations.LookupReturnsTheParts : Prop :=
  CodesAsListed ∧ ∀ (h : WireHandle) (s : State) (i : Fin 48) (o : Order), Names s h i o →
    Answers (.lookup h 0) s s [1, 1, 1, 4, 4, 2, 1, 1, 1, 1, 1, 1, 1, 4, 2]
      [i.val, (slotAt s i).gen.toNat, o.bay.val, o.tag.toNat, o.departure, twos 16 o.target, o.band, o.priority.code,
       o.locked.toNat, o.state.code, o.state.reasonCode, o.started.toNat, o.flags.code, o.energy, o.remainder]
    ∧ Answers (.lookup h 1) s s [1, 2, 2, 4, 1, 1, 1, 1, 1, 2, 4, 4, 4]
      ((match o.activation with
        | some a => [1, twos 16 a.cabin, a.loss, a.time, a.kc, a.u]
        | none => [0, 0, 0, 0, 0, 0])
        ++ match o.figures with
          | some f => [1, f.wanted.code, f.demand, f.eNeed, f.tNeed, twos 32 f.slack, f.startAt]
          | none => [0, 0, 0, 0, 0, 0, 0])
    ∧ Answers (.lookup h 2) s s [1, 1, 1, 4, 1, 2, 1, 1, 4, 1, 2, 4, 1]
      ((match o.trip with
        | some r => [1, r.first.code, r.later.code, r.time] ++ (match r.cabin with
            | some c => [1, twos 16 c]
            | none => [0, 0])
        | none => [0, 0, 0, 0, 0, 0])
        ++ match o.outcome with
          | some r => [1, r.kind.code, r.time] ++ (match r.finalCabin with
              | some c => [1, twos 16 c]
              | none => [0, 0]) ++ [r.energy, r.reachedBand.toNat]
          | none => [0, 0, 0, 0, 0, 0, 0])

/-- The three forms of FIND: a bay's queue head first (R24); the live orders of a tag (R25) and the orders of a state (R26)
in ascending slots from the starting slot, at most 28, with the "more" flag; BAD_VALUE for what lies out of range. -/
def Obligations.FindReturnsHandles : Prop :=
  ∀ (bay code start : Byte) (tag : Word) (s : State),
    let handles (l : List (Fin 48)) : List Nat := l.flatMap fun i => [i.val, (slotAt s i).gen.toNat]
    let found (p : Order → Bool) : List (Fin 48) :=
      (List.finRange 48).filter fun i => decide (start.toNat ≤ i.val) && (orderAt s i).any p
    let page (c : Instr) (l : List (Fin 48)) : Prop :=
      Answers c s s ([1, 1] ++ List.replicate (2 * min 28 l.length) 1)
        ([min 28 l.length, (decide (28 < l.length)).toNat] ++ handles (l.take 28))
    (31 < bay.toNat → exec (.findByBay bay) s = .next (refuse .badValue s))
    ∧ (∀ b : Fin 32, b.val = bay.toNat →
        Answers (.findByBay bay) s s (1 :: List.replicate (2 * (queueAt s b).length) 1)
          ((queueAt s b).length :: handles (queueAt s b)))
    ∧ (47 < start.toNat → exec (.findByTag tag start) s = .next (refuse .badValue s)
        ∧ exec (.findByState code start) s = .next (refuse .badValue s))
    ∧ (6 < code.toNat → exec (.findByState code start) s = .next (refuse .badValue s))
    ∧ (start.toNat ≤ 47 → page (.findByTag tag start) (found fun o => decide (o.state ≠ .closed) && decide (o.tag = tag)))
    ∧ (start.toNat ≤ 47 → code.toNat ≤ 6 → page (.findByState code start) (found fun o => decide (o.state.code = code.toNat)))

/-! ### Profiles -/

/-- PROFILE_READ returns the profile of a tag with its position, its references and the table's size, and changes nothing;
NO_PROFILE for a tag without one, tag 0 included (R61). -/
def Obligations.ProfileReadAnswer : Prop :=
  ∀ (tag : Tag) (s : State), ProfilesSound s →
    ((∀ p ∈ s.profiles, p.tag ≠ tag) → exec (.profileRead tag) s = .next (refuse .noProfile s))
    ∧ ∀ (before after : List Profile) (p : Profile), s.profiles = before ++ p :: after → p.tag = tag →
        Answers (.profileRead tag) s s [4, 1, 1, 1, 1, 1, 1, 1]
          [tag.toNat, p.kc, p.u, p.samples, p.pinned.toNat, before.length,
           ((List.finRange 48).filter fun i =>
              (orderAt s i).any fun o => decide (o.state ≠ .closed) && decide (o.tag = tag)).length,
           s.profiles.length]

/-- PROFILE_PRESET overwrites the profile of its tag or creates one, evicting the victim of R60 where the table is full,
with Kc and U clamped, samples 0 and the most recent place; BAD_VALUE and TABLE_FULL as R62 gives them. -/
def Obligations.ProfilePresetWrites : Prop :=
  ∀ (tag : Tag) (kc u pin : Byte) (s : State), ProfilesSound s →
    let profile : Profile :=
      { tag := tag, kc := max 10 (min 250 kc.toNat), u := max 5 (min 100 u.toNat), samples := 0, pinned := decide (pin ≠ 0) }
    JudgedBy (.profilePreset tag kc u pin) s
      [(tag = 0, .badValue), ((∀ p ∈ s.profiles, p.tag ≠ tag) ∧ 64 ≤ s.profiles.length ∧ NoVictim s, .tableFull)]
    ∧ (tag ≠ 0 → (∃ p ∈ s.profiles, p.tag = tag) →
        Answers (.profilePreset tag kc u pin) s { s with profiles := profile :: s.profiles.filter fun q => q.tag != tag }
          [1, 4] [0, 0])
    ∧ (∀ after evicted, tag ≠ 0 → (∀ p ∈ s.profiles, p.tag ≠ tag) → Creates s profile after evicted →
        Answers (.profilePreset tag kc u pin) s { s with profiles := after } [1, 4] [1, evicted.toNat])

/-- PROFILE_DROP removes the profile of its tag, pinned or not, unless none is there or a live order references it (R64). -/
def Obligations.ProfileDropRemoves : Prop :=
  ∀ (tag : Tag) (s : State), ProfilesSound s →
    JudgedBy (.profileDrop tag) s [(∀ p ∈ s.profiles, p.tag ≠ tag, .noProfile), (Referenced s tag, .inUse)]
    ∧ ((∃ p ∈ s.profiles, p.tag = tag) → ¬Referenced s tag →
        Answers (.profileDrop tag) s { s with profiles := s.profiles.filter fun q => q.tag != tag } [] [])

/-- Applying a result that moves a started order from ACTIVE to HOLDING: the first time sets the learning mark and takes a
sample under the conditions of R66; a sample with energy left after the loss updates the profile and sets LEARNED
(R65 to R68). -/
def Obligations.LearningPointUpdatesProfile : Prop :=
  ∀ (s : State) (now : Nat) (r : PassResult) (o : Order) (a : Activation), ProfilesSound s →
    orderAt s r.head.slot = some o → r.head.state = .active → r.newState = .holding → r.head.started = true →
    o.activation = some a →
    ∃ o', orderAt (applyResult s now r) r.head.slot = some o'
      ∧ (slotAt (applyResult s now r) r.head.slot).learnMark = true
      ∧ ((∃ (p : Profile) (c : Int),
            (slotAt s r.head.slot).learnMark = false ∧ p ∈ s.profiles ∧ p.tag = o.tag ∧ p.pinned = false
            ∧ r.eval.cabin = some c ∧ 600 ≤ now - a.time ∧ 30 ≤ (c - a.cabin).natAbs
            ∧ a.loss * (now - a.time) / 3600 < o.energy
            ∧ (let dT := (c - a.cabin).natAbs
               let heat := o.energy - a.loss * (now - a.time) / 3600
               let observed := max 10 (min 250 ((heat * 20 + dT) / (2 * dT)))
               o'.flags.learned = true
               ∧ (applyResult s now r).profiles =
                  { p with
                    kc := if p.samples = 0 then observed else (3 * p.kc + observed + 2) / 4
                    samples := min 255 (p.samples + 1) } :: s.profiles.filter fun q => q.tag != o.tag))
          ∨ ((∀ (p : Profile) (c : Int),
              ¬((slotAt s r.head.slot).learnMark = false ∧ p ∈ s.profiles ∧ p.tag = o.tag ∧ p.pinned = false
                ∧ r.eval.cabin = some c ∧ 600 ≤ now - a.time ∧ 30 ≤ (c - a.cabin).natAbs
                ∧ a.loss * (now - a.time) / 3600 < o.energy))
            ∧ o'.flags.learned = o.flags.learned ∧ (applyResult s now r).profiles = s.profiles))

/-! ### Allocation passes -/

/-- ALLOCATE_NOW is answered OK at once and is a pass request (R75, R74); the expiry of the period timer is another (R73,
log 7). A publish with no pass in flight changes nothing (log 4). -/
def Obligations.PassRequests : Prop :=
  ∀ s : State,
    (∃ t, exec .allocateNow s = .next (answer .ok [] t) ∧ PassRequested s t)
    ∧ (∃ t, exec .periodTimerExpiry s = .next t ∧ PassRequested { s with periodTimer := 0 } t)
    ∧ (s.pass = none → exec .publish s = .next s)

/-- The snapshot of a pass holds what stands at its start: the clock, every bay, the heads to be evaluated with the Kc and
U of R37, the budgets, the curtailment state, the trip selection and the default lead (R77, R78). -/
def Obligations.SnapshotHoldsTheMoment : Prop :=
  ∀ s : State, s.pass = none → QueuesSound s → ProfilesSound s →
    ∃ t p, exec .allocateNow s = .next t ∧ t.pass = some p ∧ p.age = 0
      ∧ p.snap.now = s.clock ∧ p.snap.hold = s.hold.isSome ∧ p.snap.curtailed = (s.lineState || s.softCurtail)
      ∧ p.snap.selection = s.tuning.selection ∧ p.snap.lead = s.tuning.lead
      ∧ p.snap.site = siteHeadroom s ∧ (∀ k : Fin 4, p.snap.feeders[k] = feederHeadroom s k)
      ∧ (∀ b : Fin 32, p.snap.bays[b] =
          { link := s.bays[b].link, tele := s.bays[b].tele, stamp := s.bays[b].stamp
            appliedMode := s.bays[b].applied.mode, appliedSteps := s.bays[b].applied.steps
            pendingMode := s.bays[b].pending.mode, pendingSteps := s.bays[b].pending.steps
            overdraw := s.bays[b].overdraw, resting := s.bays[b].reversal.map fun r => r.mode
            feeder := feederOf s.windows b
            head := (s.queues[b].head?).map fun i => (i, (slotAt s i).gen) })
      ∧ p.snap.heads.Pairwise (fun x y => x.bay < y.bay)
      ∧ ∀ h : SnapHead, h ∈ p.snap.heads ↔
          ∃ o, HeadOf s h.bay h.slot ∧ orderAt s h.slot = some o
            ∧ (o.state = .planned ∨ o.state = .active ∨ o.state = .holding ∨ ∃ reason, o.state = .paused reason)
            ∧ h = { slot := h.slot, gen := (slotAt s h.slot).gen, state := o.state, bay := h.bay, tag := o.tag
                    departure := o.departure, target := o.target, band := o.band, priority := o.priority
                    started := o.started, activation := o.activation, kc := h.kc, u := h.u }
            ∧ (∀ a, o.started = true → o.activation = some a → h.kc = a.kc ∧ h.u = a.u)
            ∧ (∀ q ∈ s.profiles, o.started = false → q.tag = o.tag → h.kc = q.kc ∧ h.u = q.u)
            ∧ (o.started = false → (∀ q ∈ s.profiles, q.tag ≠ o.tag) → h.kc = 45 ∧ h.u = 20)
            ∧ (o.started = true → o.activation = none → (h.kc, h.u) = chosenFigures s o)

/-- The figures of an evaluation of a live head are exactly those of spec/02: the form (R38), the wanted mode (R39, R40, R45),
the counted capability (R36), the energy need (R41), the loss power (R42), the demand (R44, R45), the time needed (R46),
SHORTFALL (R47), the start time (R48) and the slack (R49), each quotient rounded as its rule says; they lie in the ranges of
the chapter; and without telemetry they are those of R50. -/
def Obligations.FiguresAreExactAndInRange : Prop :=
  ∀ x : EvalInput, (∀ t, x.tele = some t → TelemetrySound t) →
    160 ≤ x.target → x.target ≤ 280 → 3 ≤ x.band → x.band ≤ 30 → 10 ≤ x.kc → x.kc ≤ 250 → 5 ≤ x.u → x.u ≤ 100 →
    x.now < x.departure → x.departure ≤ 4294967295 →
    let e := evaluate x
    let tRem := x.departure - x.now
    e.kc = x.kc ∧ e.u = x.u
    ∧ (x.tele = none →
        e.wanted = .off ∧ e.eNeed = 0 ∧ e.loss = 0 ∧ e.demand = 0 ∧ e.tNeed = 0 ∧ e.startAt = x.departure - x.lead
        ∧ e.slack = min (tRem : Int) 2147483647 ∧ e.shortfall = false ∧ e.cabin = none)
    ∧ ∀ t, x.tele = some t →
        let dT := (x.target - t.cabin).natAbs
        let counted (reported : Nat) : Nat := if reported ≤ 4 then 0 else min reported 120
        let keeping : Wanted := if t.outdoor < x.target then .heat else if x.target < t.outdoor then .cool else .off
        let full := e.mmax * 100
        e.cabin = some t.cabin
        ∧ (e.demand = 0 ∨ 5 ≤ e.demand ∧ e.demand ≤ 120 ∧ e.demand ≤ e.mmax) ∧ e.eNeed ≤ 17000 ∧ e.loss ≤ 6800
        ∧ e.tNeed ≤ 604800 ∧ -604799 ≤ e.slack ∧ e.slack ≤ 2147483647
        ∧ (e.maintenance = true ↔ x.state = .holding ∧ dT ≤ x.band + 5)
        ∧ (e.maintenance = false →
            (e.wanted = .heat ↔ t.cabin < x.target - x.band) ∧ (e.wanted = .cool ↔ x.target + x.band < t.cabin)
            ∧ (e.wanted ≠ .heat → e.wanted ≠ .cool → e.wanted = .inBand))
        ∧ (e.wanted = .heat → e.mmax = counted t.heatCap) ∧ (e.wanted = .cool → e.mmax = counted t.coolCap)
        ∧ (let mode := if e.maintenance = true ∨ e.wanted = .inBand then keeping else e.wanted
           let product : Int :=
             match mode with
             | .heat => x.u * max 0 (x.target - t.outdoor)
             | .cool => x.u * max 0 (t.outdoor - x.target)
             | .off | .inBand => 0
           10 * (e.loss : Int) ≤ product ∧ product < 10 * e.loss + 10)
        ∧ (e.maintenance = true →
            (e.loss = 0 → e.wanted = .off ∧ e.demand = 0 ∧ e.shortfall = false)
            ∧ (0 < e.loss → e.wanted = keeping ∧ (e.shortfall = true ↔ full < e.loss) ∧ (e.mmax = 0 → e.demand = 0)
                ∧ (e.mmax ≠ 0 → ∃ n, e.loss ≤ 100 * n ∧ 100 * n < e.loss + 100 ∧ e.demand = max 5 (min e.mmax n))))
        ∧ (e.wanted = .inBand → e.demand = 0 ∧ e.shortfall = false)
        ∧ ((e.maintenance = true ∨ e.wanted = .inBand) → e.eNeed = 0 ∧ e.tNeed = 0)
        ∧ (e.maintenance = false → e.wanted = .heat ∨ e.wanted = .cool →
            dT * x.kc ≤ 10 * e.eNeed ∧ 10 * e.eNeed < dT * x.kc + 10
            ∧ (e.mmax = 0 → e.demand = 0)
            ∧ (e.mmax ≠ 0 → ∃ watts n, e.eNeed * 3600 ≤ watts * tRem ∧ watts * tRem < e.eNeed * 3600 + tRem
                ∧ watts + e.loss ≤ 100 * n ∧ 100 * n < watts + e.loss + 100 ∧ e.demand = max 5 (min e.mmax n))
            ∧ (full ≤ e.loss → e.tNeed = 604800)
            ∧ (e.loss < full → ∃ n, e.eNeed * 3600 ≤ n * (full - e.loss)
                ∧ n * (full - e.loss) < e.eNeed * 3600 + (full - e.loss) ∧ e.tNeed = min n 604800)
            ∧ (e.shortfall = true ↔ full ≤ e.loss ∨ tRem < e.tNeed))
        ∧ e.startAt = x.departure - e.tNeed - 300
        ∧ e.slack = min ((tRem : Int) - e.tNeed) 2147483647

/-- The new state of an evaluated head is that of the first check of R79 that holds, on the evaluation of R34, with freshness
(R80), the fault conditions (R81) and the hysteresis (R83) as their rules give them. -/
def Obligations.EligibilityChecksInOrder : Prop :=
  ∀ (snap : Snapshot) (h : SnapHead),
    let x := snap.bays[h.bay]
    let e := evaluate (inputOf snap h)
    let limit (t : Telemetry) : Prop :=
      (x.appliedMode = .heat ∧ 450 < t.cabin) ∨ (x.appliedMode = .cool ∧ t.cabin < h.target - 60)
    FirstOf
      [(h.started = false ∧ snap.now < e.startAt, OrderState.planned),
       (snap.hold = true, .paused .linkReset),
       (¬(x.link = .online ∧ (∃ t, x.tele = some t) ∧ ∃ stamp, x.stamp = some stamp ∧ snap.now ≤ stamp + 10), .paused .stale),
       (∃ t, x.tele = some t ∧ t.connector = .unplugged, .paused .absent),
       (∃ t, x.tele = some t ∧ h.tag ≠ 0 ∧ t.tag ≠ h.tag, .paused .wrongVehicle),
       (∃ t, x.tele = some t ∧ limit t ∧ snap.selection.cabinLimit = false, .paused .cabinLimit),
       (x.overdraw = 2 ∧ snap.selection.overdraw = false, .paused .overdraw),
       (∃ t, x.tele = some t ∧ t.hvac = .fault ∧ snap.selection.hvacFault = false, .paused .hvacFault),
       (x.feeder = none, .paused .unmapped),
       (snap.curtailed = true ∧ h.priority ≠ .urgent, .paused .curtail),
       ((e.wanted = .heat ∨ e.wanted = .cool) ∧ e.mmax = 0, .paused .incapable),
       (∃ t, x.tele = some t
          ∧ (t.cabin - h.target).natAbs ≤ (if h.state = .holding then h.band + 5 else h.band), .holding)]
      .active (newState snap h e)

/-- The two rounds of a pass. The orders that take part, ranked by priority, then slack, then bay number (R87), are given a
first grant of 5 steps and then raised toward their demand, each as far as the budgets that those before it leave allow, and
no less (R89, R90). The charges never rise above the larger of the charges at the snapshot and the headroom, for
the site and for each feeder (R88 to R90, R110); each grant has the form of R91 and never exceeds the demand; a bay that
already holds 5 steps is not starved and keeps what its order asks for out of what it holds. -/
def Obligations.DistributionStaysInBudget : Prop :=
  (∀ shares : List Share,
    (rank shares).Perm shares
    ∧ (rank shares).Pairwise fun x y =>
        y.priority.code < x.priority.code
          ∨ (x.priority = y.priority ∧ (x.slack < y.slack ∨ (x.slack = y.slack ∧ x.bay ≤ y.bay))))
  ∧ ∀ snap : Snapshot, snap.heads.Pairwise (fun x y => x.bay < y.bay) →
    let results := passResults snap
    let charged (b : Fin 32) : Nat := max (heldCharge snap.bays[b]) (grantedSteps results b)
    (allBays.map charged).sum ≤ max (allBays.map fun b => heldCharge snap.bays[b]).sum snap.site
    ∧ (∀ k : Fin 4,
        ((allBays.filter fun b => decide (snap.bays[b].feeder = some k)).map charged).sum
          ≤ max ((allBays.filter fun b => decide (snap.bays[b].feeder = some k)).map fun b => heldCharge snap.bays[b]).sum
              snap.feeders[k])
    ∧ results.map (fun r => r.head) = snap.heads
    ∧ (∃ (ranked : List PassResult) (first : Fin 32 → Nat),
        ranked.Nodup ∧ (∀ r, r ∈ ranked ↔ r ∈ results ∧ TakesPart r) ∧ ranked.Pairwise RanksBefore
        ∧ TwoRounds snap ranked first)
    ∧ ∀ r ∈ results,
        ((r.mode = .off ∧ r.steps = 0)
          ∨ (5 ≤ r.steps ∧ r.steps ≤ r.eval.demand ∧ r.eval.demand ≤ r.eval.mmax ∧ r.eval.mmax ≤ 120
              ∧ (r.mode = .heat ∧ r.eval.wanted = .heat ∨ r.mode = .cool ∧ r.eval.wanted = .cool)
              ∧ (r.newState = .active ∨ r.newState = .holding) ∧ r.reversing = false ∧ r.starved = false))
        ∧ (r.starved = true ↔ (r.newState = .active ∨ r.newState = .holding) ∧ 5 ≤ r.eval.demand ∧ r.reversing = false
            ∧ r.steps = 0)
        ∧ ((r.newState = .active ∨ r.newState = .holding) → 5 ≤ r.eval.demand → r.reversing = false →
            5 ≤ heldCharge snap.bays[r.head.bay] →
            r.starved = false ∧ min r.eval.demand (heldCharge snap.bays[r.head.bay]) ≤ r.steps)

/-- Each result of a pass rests on the evaluation of its head on the snapshot (R34). The guard on a bay's snapshot bars an eligible order with a demand when the applied mode, the pending mode or the
remembered mode of a running reversal timer is the opposite of the wanted mode, and in no other case; a barred order keeps
its new state, is not starved and receives OFF/0 (R86, R168). -/
def Obligations.ReversalGuardBars : Prop :=
  ∀ (snap : Snapshot) (r : PassResult), snap.heads.Pairwise (fun x y => x.bay < y.bay) → r ∈ passResults snap →
    let x := snap.bays[r.head.bay]
    let faces (m : Mode) : Prop := x.appliedMode = m ∨ x.pendingMode = m ∨ x.resting = some m
    r.eval = evaluate (inputOf snap r.head) ∧ r.newState = newState snap r.head r.eval
    ∧ (r.reversing = true ↔
        (r.newState = .active ∨ r.newState = .holding) ∧ 5 ≤ r.eval.demand
          ∧ (r.eval.wanted = .heat ∧ faces .cool ∨ r.eval.wanted = .cool ∧ faces .heat))
    ∧ (r.reversing = true → r.starved = false ∧ r.mode = .off ∧ r.steps = 0)

/-- The publish of a pass in flight: each result that meets R94 is applied (R95) and its grant offered (R96), the others are
discarded whole, a bay without an applied result is zeroed unless its head is ACTIVE or HOLDING (R97), STARVED is raised
for an applied starved result (R98), and the pass ends (R93, R74). The learning points among the applied results set their
learning marks and take their samples in ascending bay order, each on the profile table the one before leaves, and no other
result touches the table (R65 to R68, R93). -/
def Obligations.PublishAppliesMatchingResults : Prop :=
  ∀ (s : State) (p : Pass), QueuesSound s → s.pass = some p → p.snap.heads.Pairwise (fun x y => x.bay < y.bay) →
    ∃ (u t : State) (points : List PassResult) (sampled : Fin 48 → Bool), exec .publish s = .next t ∧ PassEnds u t
      ∧ points.Sublist (passResults p.snap) ∧ (∀ r, r ∈ points ↔ r ∈ passResults p.snap ∧ AtLearningPoint s r)
      ∧ LearnsInTurn s p.snap.now sampled points s.profiles u.profiles
      ∧ (∀ r ∈ passResults p.snap, Applies s r → ∀ o, orderAt s r.head.slot = some o →
          let starts := r.head.started = false ∧ (r.newState = .active ∨ r.newState = .holding)
          ∃ (learned started : Bool) (activation : Option Activation),
            orderAt u r.head.slot = some
              { o with
                state := r.newState
                figures := some
                  { wanted := r.eval.wanted, demand := r.eval.demand, eNeed := r.eval.eNeed, tNeed := r.eval.tNeed
                    slack := r.eval.slack, startAt := r.eval.startAt }
                flags := { o.flags with
                  shortfall := r.eval.shortfall, starved := r.starved, reversing := r.reversing, learned := learned }
                started := started
                activation := activation }
            ∧ (AtLearningPoint s r →
                learned = (o.flags.learned || sampled r.head.slot) ∧ (slotAt u r.head.slot).learnMark = true)
            ∧ (¬AtLearningPoint s r →
                learned = o.flags.learned ∧ (slotAt u r.head.slot).learnMark = (slotAt s r.head.slot).learnMark)
            ∧ (starts → started = true ∧ ∃ a, activation = some a ∧ a.loss = r.eval.loss ∧ a.time = p.snap.now
                ∧ a.kc = r.eval.kc ∧ a.u = r.eval.u ∧ ∀ c, r.eval.cabin = some c → a.cabin = c)
            ∧ (¬starts → started = o.started ∧ activation = o.activation)
            ∧ bayAt u r.head.bay = (bayAt s r.head.bay).offer r.mode r.steps)
      ∧ (∀ i, (¬∃ r ∈ passResults p.snap, Applies s r ∧ r.head.slot = i) → slotAt u i = slotAt s i)
      ∧ (∀ i, (slotAt u i).gen = (slotAt s i).gen ∧ (slotAt u i).changeMark = (slotAt s i).changeMark)
      ∧ (∀ b, (¬∃ r ∈ passResults p.snap, Applies s r ∧ r.head.bay = b) →
          ((∃ i o, HeadOf s b i ∧ orderAt s i = some o ∧ (o.state = .active ∨ o.state = .holding)) → bayAt u b = bayAt s b)
          ∧ ((¬∃ i o, HeadOf s b i ∧ orderAt s i = some o ∧ (o.state = .active ∨ o.state = .holding)) →
              bayAt u b = (bayAt s b).offer .off 0))
      ∧ ((∃ r ∈ passResults p.snap, Applies s r ∧ r.starved = true) → u.flags = s.flags ||| 0x04)
      ∧ ((¬∃ r ∈ passResults p.snap, Applies s r ∧ r.starved = true) → u.flags = s.flags)
      ∧ u = { s with slots := u.slots, profiles := u.profiles, bays := u.bays, flags := u.flags }

/-- A write of a pending grant (R128): equal mode and steps change nothing; a different value is stored with the next
sequence, 1 after 15 or after 0; nothing else of the bay record changes. -/
def Obligations.PendingGrantWrites : Prop :=
  ∀ (x : Bay) (mode : Mode) (steps : Nat), x.pending.seq ≤ 15 →
    (x.pending.mode = mode → x.pending.steps = steps → x.offer mode steps = x)
    ∧ (x.pending.mode ≠ mode ∨ x.pending.steps ≠ steps →
        ∃ n, x.offer mode steps = { x with pending := { mode := mode, steps := steps, seq := n } }
          ∧ n = (if x.pending.seq = 0 ∨ x.pending.seq = 15 then 1 else x.pending.seq + 1))
    ∧ 1 ≤ (x.offer mode (x.pending.steps + 1)).pending.seq ∧ (x.offer mode (x.pending.steps + 1)).pending.seq ≤ 15

/-! ### Site and feeder budgets -/

/-- SET_CEILING stores 1..20000 once and the working cap with it, and is answered WRITE_ONCE from then on; the ceiling is
unset after a power-on reset and kept by the other resets (R101, R102). The working cap and the fallback cap are clamped to
the ceiling (R103, R106), the curtail cap to 20000 (R104), each answered as stored, with their values after each reset. -/
def Obligations.CeilingOnceAndCapsClamped : Prop :=
  ∀ (value : Half) (curt : Bool) (s : State),
    (s.ceiling = 0 →
        Answers (.setCeiling value) s
          { s with ceiling := max 1 (min 20000 value.toNat), workingCap := max 1 (min 20000 value.toNat) }
          [2] [max 1 (min 20000 value.toNat)])
    ∧ (s.ceiling ≠ 0 → exec (.setCeiling value) s = .next (refuse .writeOnce s))
    ∧ (∃ t, exec (.powerOnReset curt) s = .next t ∧ t.ceiling = 0)
    ∧ (∃ t, exec (.pinReset curt) s = .next t ∧ t.ceiling = s.ceiling)
    ∧ (∃ t, exec .softReset s = .next t ∧ t.ceiling = s.ceiling)
    ∧ Answers (.setWorkingCap value) s { s with workingCap := min value.toNat s.ceiling } [2] [min value.toNat s.ceiling]
    ∧ Answers (.setCurtailCap value) s { s with curtailCap := min value.toNat 20000 } [2] [min value.toNat 20000]
    ∧ Answers (.setFallbackCap value) s { s with fallbackCap := min value.toNat s.ceiling } [2] [min value.toNat s.ceiling]
    ∧ (∃ t, exec (.powerOnReset curt) s = .next t ∧ t.workingCap = 0 ∧ t.curtailCap = 0 ∧ t.fallbackCap = 0)
    ∧ (∃ t, exec (.pinReset curt) s = .next t ∧ t.workingCap = s.ceiling ∧ t.curtailCap = 0 ∧ t.fallbackCap = 0)
    ∧ (∃ t, exec .softReset s = .next t ∧ t.workingCap = s.workingCap ∧ t.curtailCap = s.curtailCap
        ∧ t.fallbackCap = s.fallbackCap)

/-- SET_FEEDER stores base, limit and cap of one feeder, each clamped, and answers them; BAD_VALUE above feeder 3; the
windows after each reset (R108). A bay belongs to the lowest-numbered feeder whose window holds it, or to none (R109). -/
def Obligations.FeederWindowsAndDecoding : Prop :=
  (∀ (windows : Vector Window 4) (b : Fin 32),
    let holds (k : Fin 4) : Prop := windows[k].base ≤ b.val ∧ b.val ≤ windows[k].limit
    (∀ k : Fin 4, feederOf windows b = some k ↔ holds k ∧ ∀ j : Fin 4, j < k → ¬holds j)
    ∧ (feederOf windows b = none ↔ ∀ k : Fin 4, ¬holds k))
  ∧ ∀ (feeder base limit : Byte) (cap : Half) (curt : Bool) (s : State),
    (3 < feeder.toNat → exec (.setFeeder feeder base limit cap) s = .next (refuse .badValue s))
    ∧ (∀ k : Fin 4, k.val = feeder.toNat → ∃ windows : Vector Window 4,
        windows[k] = { base := min base.toNat 31, limit := min limit.toNat 31, cap := min cap.toNat 20000 }
        ∧ (∀ j : Fin 4, j ≠ k → windows[j] = s.windows[j])
        ∧ Answers (.setFeeder feeder base limit cap) s { s with windows := windows } [1, 1, 2]
            [min base.toNat 31, min limit.toNat 31, min cap.toNat 20000])
    ∧ (∀ c : Instr, c = .powerOnReset curt ∨ c = .pinReset curt → ∃ t, exec c s = .next t
        ∧ t.windows[0] = { base := 0, limit := 31, cap := 0 } ∧ t.windows[1] = { base := 31, limit := 0, cap := 0 }
        ∧ t.windows[2] = { base := 31, limit := 0, cap := 0 } ∧ t.windows[3] = { base := 31, limit := 0, cap := 0 })
    ∧ (∃ t, exec .softReset s = .next t ∧ t.windows = s.windows)

/-- REPORT_LOAD rewrites the load record whole, listed feeders clamped and the others 0, age 0, FRESH (R112); a list that
does not match its count has no such frame and is answered as R182 answers one (log 18). The transition of a FRESH record
to STALE raises LOAD_STALE and keeps the figures (R113), a STALE one has no transition; the age left is at least the load
stale time (log 6). -/
def Obligations.LoadReportAndStaleTransition : Prop :=
  (∀ s : State,
    (s.load.state = .stale → exec .loadStaleTransition s = .next s)
    ∧ (s.load.state = .fresh → ∃ age : Option Nat,
        exec .loadStaleTransition s =
          .next { s with load := { s.load with state := .stale, age := age }, flags := s.flags ||| 0x10 }
        ∧ (∀ a, s.load.age = some a → s.tuning.stale * 16000000 ≤ a → age = some a)
        ∧ (∀ a ∈ age, s.tuning.stale * 16000000 ≤ a)))
  ∧ ∀ (site : Half) (count : Byte) (loads : List Half) (s : State),
    (4 < count.toNat → exec (.reportLoad site count loads) s = .next (refuse .badValue s))
    ∧ (count.toNat ≤ 4 → loads.length ≠ count.toNat →
        exec (.reportLoad site count loads) s = .next (refuse .badLength s))
    ∧ (count.toNat ≤ 4 → loads.length = count.toNat → ∃ feeders : Vector Nat 4,
        (∀ k : Fin 4, feeders[k] = match loads[k.val]? with
          | some l => min l.toNat 20000
          | none => 0)
        ∧ Answers (.reportLoad site count loads) s
            { s with load := { site := min site.toNat 20000, feeders := feeders, state := .fresh, age := some 0 } } [] [])

/-- READ_BUDGET returns the caps, the effective cap (R105), the load record, the headroom figures computed now (R115) and
the windows, and changes nothing; the report age is rounded down (the model's reading, log 15), and with the age absent the
loads, headroom and windows behind its presence byte are returned with their values (the model's reading of R185, log 21). -/
def Obligations.BudgetAnswer : Prop :=
  ∀ s : State,
    let inForce := s.lineState || s.softCurtail
    let cap := if inForce then min s.workingCap s.curtailCap else s.workingCap
    let site := if s.load.state = .fresh then cap - s.load.site else min s.fallbackCap cap
    let feeder (k : Fin 4) := if s.load.state = .fresh then s.windows[k].cap - s.load.feeders[k] else s.windows[k].cap
    let window (k : Fin 4) := [s.windows[k].base, s.windows[k].limit, s.windows[k].cap]
    Answers .readBudget s s
      ([2, 2, 2, 2, 2, 1] ++ [1, 1, 2, 2] ++ [2, 2, 2, 2] ++ [2, 2, 2, 2, 2] ++ [1, 1, 2, 1, 1, 2, 1, 1, 2, 1, 1, 2])
      ([s.ceiling, s.workingCap, s.curtailCap, s.fallbackCap, cap, inForce.toNat]
        ++ [s.load.state.code] ++ (match s.load.age with
            | some a => [1, min (a / 16000000) 65535]
            | none => [0, 0]) ++ [s.load.site]
        ++ [s.load.feeders[0], s.load.feeders[1], s.load.feeders[2], s.load.feeders[3]]
        ++ [site, feeder 0, feeder 1, feeder 2, feeder 3] ++ window 0 ++ window 1 ++ window 2 ++ window 3)
    ∧ siteHeadroom s = site ∧ ∀ k, feederHeadroom s k = feeder k

/-! ### Bay link -/

/-- ENABLE_BAYS makes its list the enabled list, with the effect of R143 on each bay, and changes nothing else. -/
def Obligations.EnableBaysSetsTheList : Prop :=
  ∀ (list : Word) (s : State), ∃ bays : Vector Bay 32,
    Answers (.enableBays list) s { s with bays := bays } [] []
    ∧ ∀ b : Fin 32,
        (list.getLsbD b.val = true → s.bays[b].enabled = false →
          bays[b] = { s.bays[b] with enabled := true, link := .unseen, misses := 0 })
        ∧ (list.getLsbD b.val = false → s.bays[b].enabled = true →
          bays[b] = { s.bays[b] with enabled := false, link := .disabled, misses := 0 })
        ∧ (list.getLsbD b.val = s.bays[b].enabled → bays[b] = s.bays[b])

/-- A link reset hold as LINK_RESET begins or restarts it (R139): exchange, cycle, waiting ALLSTOP and one being sent gone, 2 s
counted, applied grants OFF/0 with their lapse timers stopped and the change handed to the reversal timers (R167), enabled bays
UNSEEN; everything else kept. -/
def Obligations.LinkResetBeginsHold : Prop :=
  ∀ s : State, ∃ bays : Vector Bay 32,
    Answers .linkReset s
      { s with
        exchange := none, cycle := none, allstop := none, sending := none, hold := some (2 * 16000000), bays := bays } [] []
    ∧ ∀ b : Fin 32,
        RestAfter s.tuning.dead s.bays[b] bays[b]
        ∧ bays[b] = { s.bays[b] with
            applied := { mode := .off, steps := 0, seq := 0 }
            lapse := none
            reversal := bays[b].reversal
            link := if s.bays[b].link = .disabled then .disabled else .unseen
            misses := if s.bays[b].link = .disabled then s.bays[b].misses else 0 }

/-- The end of a hold: the break is released, LINK_RESET_DONE is raised, and a deferred cycle begins at once (R142).
Without a hold there is nothing to end (log 4). -/
def Obligations.HoldEndsWithDeferredCycle : Prop :=
  ∀ s : State,
    (s.hold = none → exec .linkResetHoldEnd s = .next s)
    ∧ (s.hold ≠ none → ∃ t, exec .linkResetHoldEnd s = .next t
        ∧ (s.deferred = false → t = { s with hold := none, flags := s.flags ||| 0x40 })
        ∧ (s.deferred = true → GoesOn 0 { s with hold := none, flags := s.flags ||| 0x40, deferred := false } t))

/-- READ_BAY returns a bay's record, timers in whole seconds rounded up, absent parts as zeros, and changes nothing;
BAD_VALUE above bay 31 (R145, R185). With the telemetry absent the grants, timers and hold behind its presence byte are
returned with their values (the model's reading of R185, log 21). -/
def Obligations.BayAnswer : Prop :=
  ∀ (bay : Byte) (s : State),
    (31 < bay.toNat → exec (.readBay bay) s = .next (refuse .badValue s))
    ∧ ∀ b : Fin 32, b.val = bay.toNat →
        let x := s.bays[b]
        let up (cycles : Nat) : Nat := (cycles + 15999999) / 16000000
        Answers (.readBay bay) s s
          ([1, 1, 1] ++ [1, 4] ++ [1, 1, 4, 2, 2, 1, 1, 2, 1] ++ [1, 1, 1] ++ [1, 1, 1] ++ [1, 1, 1, 2, 1])
          ([x.enabled.toNat, x.link.code, x.misses]
            ++ (match x.stamp with
                | some n => [1, n]
                | none => [0, 0])
            ++ (match x.tele with
                | some t => [1, t.connector.code, t.tag.toNat, twos 16 t.cabin, twos 16 t.outdoor, t.heatCap, t.coolCap, t.power,
                    t.hvac.code]
                | none => [0, 0, 0, 0, 0, 0, 0, 0, 0])
            ++ [x.pending.mode.code, x.pending.steps, x.pending.seq] ++ [x.applied.mode.code, x.applied.steps, x.applied.seq]
            ++ [match x.lapse with
                | some n => up n
                | none => 0]
            ++ [x.overdraw]
            ++ (match x.reversal with
                | some r => [r.mode.code, up r.left]
                | none => [0, 0])
            ++ [match s.hold with
                | some n => up n
                | none => 0])

/-- The cycle timer restarts at each expiry; a cycle begins when none and no hold is in progress, its first exchange marked as
the opening one (log 22), and the deferred-cycle mark is set otherwise (R123, R124). BL_DE is asserted, and BL_TX carries the
characters, while an ALLSTOP or the GRANT of an exchange is sent; a hold and a reset keep the line in break; at all other times
the driver is off (R117, R141, R186). That no time passes between a frame's due moment and its first bit, up to 100 µs on the
part, is the model's choice (log 11). -/
def Obligations.CycleTimerBeginsOrDefers : Prop :=
  (∀ s : State, ∃ u t, exec .cycleTimerExpiry s = .next t
    ∧ (s.hold ≠ none ∨ s.cycle ≠ none → t = { s with cycleTimer := 16000000, deferred := true })
    ∧ (s.hold = none → s.cycle = none → GoesOn 0 { s with cycleTimer := 16000000 } u
        ∧ t = { u with exchange := u.exchange.map fun x => { x with opening := true } }))
  ∧ ∀ (s : State) (later : Nat),
    (s.pins.held = true ∨ s.hold ≠ none → linkLevel s later = { de := true, tx := false })
    ∧ (s.pins.held = false → s.hold = none → s.sending = none → s.exchange = none →
        linkLevel s later = { de := false, tx := true })
    ∧ (∀ age, s.pins.held = false → s.hold = none → s.sending = some age →
        ShowsFrame s.allstopFrame ((age + later) / 64) (linkLevel s later))
    ∧ ∀ x, s.pins.held = false → s.hold = none → s.sending = none → s.exchange = some x →
        ShowsFrame s.grantFrame ((x.age + later) / 64) (linkLevel s later)

/-- A waiting ALLSTOP is sent when no exchange, no hold and no other ALLSTOP is in progress: its frame carries the list (R118,
R189), its characters go out back to back with BL_DE asserted (R117, R186), the request is cleared when the frame begins, and no
bay record changes. When it has been sent, a request that waits by then is sent as a frame of its own, and a cycle in progress
goes on after that (R123, R127). Otherwise nothing is sent. The row ALLSTOP is the beginning or the end of a sending (the model's
reading, log 20). -/
def Obligations.AllstopIsSentOnFreeLine : Prop :=
  ∀ s : State,
    (s.sending = none → s.allstop = none ∨ s.hold ≠ none ∨ s.exchange ≠ none → exec .allstop s = .next s)
    ∧ (∀ list, s.allstop = some list → s.hold = none → s.exchange = none → s.sending = none →
        ∃ t frame, exec .allstop s = .next t
          ∧ frame = [0x3F, 0x03, list.extractLsb' 24 8, list.extractLsb' 16 8, list.extractLsb' 8 8, list.extractLsb' 0 8]
          ∧ t = { s with allstop := none, allstopFrame := frame ++ [crc8 frame], sending := some 0 }
          ∧ (s.pins.held = false → ∀ later, ShowsFrame (frame ++ [crc8 frame]) (later / 64) (linkLevel t later)))
    ∧ (s.sending ≠ none → ∃ t, exec .allstop s = .next t
        ∧ (s.cycle = none → AllstopBegins { s with sending := none } t)
        ∧ (∀ n, s.cycle = some n → GoesOn n { s with sending := none } t))

/-- The TELE layout of R188, both ways: 18 characters that carry permitted codes are judged a valid reply of the polled bay
with the telemetry clamped as R134 stores it, and a valid reply is such a TELE. The receiver takes characters bit by bit, with
or without gaps between them, a spacing stop bit making one corrupt (R117, R186); the rest of a character not whole when the
window closes is none (log 23). -/
def Obligations.TeleRoundTrip : Prop :=
  (∀ (b : Fin 32) (echo connector : Byte) (tag : Word) (cabin outdoor : Half) (heat cool : Byte) (power : Half) (hvac : Byte),
    echo.toNat ≤ 15 → connector.toNat ≤ 1 → hvac.toNat ≤ 3 →
    ∃ t : Telemetry, judgeReply b (teleChars b echo connector tag cabin outdoor heat cool power hvac) = .valid echo.toNat t
      ∧ t.connector.code = connector.toNat ∧ t.tag = tag ∧ t.cabin = max (-400) (min 600 cabin.toInt)
      ∧ t.outdoor = max (-400) (min 600 outdoor.toInt) ∧ t.heatCap = heat.toNat ∧ t.coolCap = cool.toNat
      ∧ t.power = min power.toNat 15000 ∧ t.hvac.code = hvac.toNat)
  ∧ (∀ (b : Fin 32) (chars : List RxChar) (echo : Nat) (t : Telemetry), judgeReply b chars = .valid echo t →
      ∃ e connector tag cabin outdoor heat cool power hvac, e.toNat = echo ∧ echo ≤ 15
        ∧ connector.toNat = t.connector.code ∧ hvac.toNat = t.hvac.code
        ∧ chars = teleChars b e connector tag cabin outdoor heat cool power hvac)
  ∧ ∀ (line : List (Nat × Byte × Bool)) (rest : List Bool), rest.length < 10 →
      receiveLine ((line.flatMap fun c => charAfterGap c.1 c.2.1 c.2.2) ++ rest)
        = line.map fun c => if c.2.2 then .byte c.2.1 else .corrupt

/-- The cases of R126, in order, for the characters of a reply window. -/
def Obligations.ReplyIsJudgedInOrder : Prop :=
  ∀ (b : Fin 32) (chars : List RxChar),
    let bytes := chars.filterMap fun c => match c with
      | .byte x => some x
      | .corrupt => none
    let byteAt (k : Nat) : Byte := (bytes[k]?).getD 0
    FirstOf
      [(chars = [], some MissCause.missing), (chars.length < 18, some .short), (18 < chars.length, some .wrongLength),
       (RxChar.corrupt ∈ chars ∨ byteAt 17 ≠ crc8 (bytes.take 17), some .corrupt),
       ((byteAt 0).toNat ≠ b.val, some .misaddressed), (byteAt 1 ≠ 0x02, some .corrupt),
       (15 < (byteAt 2).toNat ∨ 1 < (byteAt 3).toNat ∨ 3 < (byteAt 16).toNat, some .corrupt)]
      none
      (match judgeReply b chars with
        | .miss cause => some cause
        | .valid _ _ => none)

/-- A valid arrival updates the polled bay's record: telemetry, stamp, misses and link state (R134), the applied grant and its
lapse timer by confirmation, renewal or neither (R130), the reversal timer (R167), the overdraw count (R155); every other
bay keeps its record, no slot has its generation or learning mark changed, and the cycle goes on (R125). The bay is judged by its
link state at the close (log 19). -/
def Obligations.ValidArrivalUpdatesTheBay : Prop :=
  ∀ (s : State) (x : Exchange) (n : Nat) (chars : List RxChar) (echo : Nat) (tele : Telemetry), QueuesSound s →
    s.exchange = some x → s.cycle = some n → judgeReply x.bay chars = .valid echo tele →
    ∃ u t, exec (.replyWindowClose chars) s = .next t ∧ GoesOn n u t
      ∧ u = { s with exchange := none, slots := u.slots, queues := u.queues, bays := u.bays, flags := u.flags }
      ∧ (∀ a, a ≠ x.bay → bayAt u a = bayAt s a)
      ∧ (∀ j, (slotAt u j).gen = (slotAt s j).gen ∧ (slotAt u j).learnMark = (slotAt s j).learnMark)
      ∧ (let old := bayAt s x.bay
         let new := bayAt u x.bay
         new.enabled = old.enabled ∧ new.tele = some tele ∧ new.stamp = some s.clock ∧ new.misses = 0
         ∧ new.link = (if old.link = .disabled then .disabled else .online)
         ∧ (echo = old.pending.seq → echo = x.seqSent →
              new.applied = old.pending ∧ new.lapse = (if 0 < old.pending.steps then some (10 * 16000000) else none))
         ∧ (¬(echo = old.pending.seq ∧ echo = x.seqSent) → echo = old.applied.seq → 0 < old.applied.steps →
              new.applied = old.applied ∧ new.lapse = some (10 * 16000000))
         ∧ (¬(echo = old.pending.seq ∧ echo = x.seqSent) → ¬(echo = old.applied.seq ∧ 0 < old.applied.steps) →
              new.applied = old.applied ∧ new.lapse = old.lapse)
         ∧ RestAfter s.tuning.dead old new
         ∧ new.overdraw = (if new.applied.steps * 100 + 300 < tele.power then min 2 (old.overdraw + 1) else 0)
         ∧ (new.pending = old.pending ∨ new.pending = (old.offer .off 0).pending))

/-- What a valid arrival does to the head of its bay: the selected causes it finds, in the order of R156, trip the head or
join its trip record (R158 to R160); energy is added to a started head (R29, R52, R53, R54); an UNPLUGGED report closes a
started head, tripped or not (R30, R10). No other order changes but the one promoted. An arrival from a bay without a live
order changes no order, no queue, no flag and no pending grant. Change marks are set as R94 gives. -/
def Obligations.ValidArrivalReachesTheHead : Prop :=
  (∀ (s : State) (x : Exchange) (n : Nat) (chars : List RxChar) (echo : Nat) (tele : Telemetry),
    s.exchange = some x → s.cycle = some n → judgeReply x.bay chars = .valid echo tele → queueAt s x.bay = [] →
    ∃ u t, exec (.replyWindowClose chars) s = .next t ∧ GoesOn n u t
      ∧ u = { s with exchange := none, bays := u.bays } ∧ (bayAt u x.bay).pending = (bayAt s x.bay).pending)
  ∧ ∀ (s : State) (x : Exchange) (n : Nat) (chars : List RxChar) (echo : Nat) (tele : Telemetry) (i : Fin 48) (o : Order),
    QueuesSound s → s.exchange = some x → s.cycle = some n → judgeReply x.bay chars = .valid echo tele →
    HeadOf s x.bay i → orderAt s i = some o →
    ∃ u t, exec (.replyWindowClose chars) s = .next t ∧ GoesOn n u t
      ∧ (let new := bayAt u x.bay
         let limit := (new.applied.mode = .heat ∧ 450 < tele.cabin) ∨ (new.applied.mode = .cool ∧ tele.cabin < o.target - 60)
         ∃ found : List Cause,
           (found = [Cause.cabinLimit, .overdraw, .hvacFault].filter fun c =>
              inSet s.tuning.selection c && match c with
                | .cabinLimit => decide limit
                | .overdraw => decide (new.overdraw = 2)
                | .hvacFault => decide (tele.hvac = .fault)
                | .silent => false)
           ∧ (let tripped := afterCauses s.clock (some tele.cabin) found o
              let seconds := match (bayAt s x.bay).stamp with
                | some prev => min (s.clock - prev) 30
                | none => 0
              let after := if o.started then
                  { tripped with
                    energy := min (o.energy + (o.remainder + tele.power * seconds) / 3600) 4294967295
                    remainder := (o.remainder + tele.power * seconds) % 3600 }
                else tripped
              let trips := found ≠ [] ∧ o.state ≠ .tripped
              (trips → (slotAt u i).changeMark = true) ∧ (¬trips → (slotAt u i).changeMark = (slotAt s i).changeMark)
              ∧ (¬(tele.connector = .unplugged ∧ o.started = true) →
                  orderAt u i = some after ∧ u.queues = s.queues
                  ∧ (trips → u.flags = s.flags ||| 0x02
                      ∧ new.pending = ((bayAt s x.bay).offer .off 0).pending)
                  ∧ (¬trips → u.flags = s.flags ∧ new.pending = (bayAt s x.bay).pending))
              ∧ (tele.connector = .unplugged → o.started = true →
                  orderAt u i = some (closedAs s.clock (some tele.cabin) .unplugged after)
                  ∧ queueAt u x.bay = (queueAt s x.bay).tail ∧ (∀ a, a ≠ x.bay → queueAt u a = queueAt s a)
                  ∧ (trips → u.flags = s.flags ||| 0x02 ||| 0x01) ∧ (¬trips → u.flags = s.flags ||| 0x01)
                  ∧ new.pending = ((bayAt s x.bay).offer .off 0).pending)))
      ∧ (∀ j, (slotAt u j).gen = (slotAt s j).gen ∧ (slotAt u j).learnMark = (slotAt s j).learnMark)
      ∧ ∀ j, j ≠ i → orderAt u j = (orderAt s j).map (reheaded s u x.bay j)
          ∧ (slotAt u j).changeMark = ((slotAt s j).changeMark || headChanged s u x.bay j)

/-- A miss raises the miss count to 3 at most and nothing else, but for the third from UNSEEN or ONLINE: the bay enters
SILENT, BAY_SILENT is raised, and SILENT is a trip cause for its head (R136, R137, R157 to R160); a DISABLED bay counts no
miss (R144), the link state being that at the close (log 19). Without an exchange the characters are discarded (R117). -/
def Obligations.MissesCountToSilence : Prop :=
  (∀ (s : State) (chars : List RxChar), s.exchange = none → exec (.replyWindowClose chars) s = .next s)
  ∧ ∀ (s : State) (x : Exchange) (n : Nat) (chars : List RxChar) (cause : MissCause), QueuesSound s →
    s.exchange = some x → s.cycle = some n → judgeReply x.bay chars = .miss cause →
    ∃ u t, exec (.replyWindowClose chars) s = .next t ∧ GoesOn n u t
      ∧ (let old := bayAt s x.bay
         let enters := (old.link = .unseen ∨ old.link = .online) ∧ 2 ≤ old.misses
         (old.link = .disabled → u = { s with exchange := none })
         ∧ (old.link ≠ .disabled → ¬enters →
              u = setBay { s with exchange := none } x.bay { old with misses := min 3 (old.misses + 1) })
         ∧ (enters →
              u = { s with exchange := none, slots := u.slots, bays := u.bays, flags := u.flags }
              ∧ (∀ a, a ≠ x.bay → bayAt u a = bayAt s a)
              ∧ ((∀ i o, HeadOf s x.bay i → orderAt s i = some o → s.tuning.selection.silent = true → o.state ≠ .tripped →
                    orderAt u i = some (afterCauses s.clock (old.tele.map (·.cabin)) [.silent] o)
                    ∧ u.flags = s.flags ||| 0x08 ||| 0x02
                    ∧ bayAt u x.bay = { (old.offer .off 0) with misses := 3, link := .silent }))
              ∧ ((∀ i o, HeadOf s x.bay i → orderAt s i = some o → s.tuning.selection.silent = true → o.state = .tripped →
                    orderAt u i = some (afterCauses s.clock (old.tele.map (·.cabin)) [.silent] o)
                    ∧ u.flags = s.flags ||| 0x08 ∧ bayAt u x.bay = { old with misses := 3, link := .silent }))
              ∧ (∀ i o, HeadOf s x.bay i → orderAt s i = some o → s.tuning.selection.silent = true →
                    (slotAt u i).gen = (slotAt s i).gen ∧ (slotAt u i).learnMark = (slotAt s i).learnMark
                    ∧ (slotAt u i).changeMark = ((slotAt s i).changeMark || decide (o.state ≠ .tripped)))
              ∧ (s.tuning.selection.silent = false ∨ queueAt s x.bay = [] →
                    u.slots = s.slots ∧ u.flags = s.flags ||| 0x08 ∧ bayAt u x.bay = { old with misses := 3, link := .silent })
              ∧ ∀ j, ¬HeadOf s x.bay j → slotAt u j = slotAt s j))

/-- A running lapse timer that reaches 0 leaves the applied grant OFF/0 with sequence 0 and the timer stopped, the change
handed to the reversal timer (R132, R133, R167); the expiry of a reversal timer stops it and clears its remembered mode
(R167). Nothing else changes, and a stopped timer has no such event (log 4). -/
def Obligations.LapseAndReversalExpiry : Prop :=
  ∀ (b : Fin 32) (s : State),
    ((bayAt s b).lapse = none → exec (.lapse b) s = .next s)
    ∧ ((bayAt s b).lapse ≠ none → ∃ x : Bay, exec (.lapse b) s = .next (setBay s b x)
        ∧ RestAfter s.tuning.dead (bayAt s b) x
        ∧ x = { bayAt s b with applied := { mode := .off, steps := 0, seq := 0 }, lapse := none, reversal := x.reversal })
    ∧ exec (.reversalTimerExpiry b) s = .next (setBay s b { bayAt s b with reversal := none })

/-! ### Protection -/

/-- CURTAIL writes the software flag and answers flag, line state and in-force state; a change of the filtered CURT line
writes the line state, unless a reset is in progress, and a change of the line itself starts its filter anew. A change that turns curtailment on is an arrival, one that turns it off a release, any other has
no further effect (R148 to R153). When the ALLSTOP request of an arrival falls together with an expiry of the cycle timer is
the model's choice (log 22). -/
def Obligations.CurtailmentArrivesAndReleases : Prop :=
  ∀ (value : Byte) (level : Bool) (s : State), QueuesSound s →
    (∃ t, CurtailmentJudged (s.lineState || s.softCurtail) { s with softCurtail := decide (value ≠ 0) } t
      ∧ Answers (.curtail value) s t [1, 1, 1] [(decide (value ≠ 0)).toNat, s.lineState.toNat,
          (s.lineState || decide (value ≠ 0)).toNat])
    ∧ (s.pins.held = false → ∃ t, exec (.curtLineChange level) s = .next t
        ∧ CurtailmentJudged (s.lineState || s.softCurtail) { s with lineState := level, curt := seen s.curt level } t)
    ∧ (s.pins.held = true → exec (.curtLineChange level) s = .next { s with curt := seen s.curt level })
    ∧ pinEdge (.curt level) s =
        (if s.curt.line = level then s else { s with curt := { line := level, level := s.curt.level, since := 0 } })

/-- REARM is refused NO_ORDER, NOT_TRIPPED, or STILL_FAULTED while a cause of the trip record is present (R163, R164);
otherwise the order becomes PLANNED, all else of it kept, and a pass is requested (R165). -/
def Obligations.RearmTestsRecordedCauses : Prop :=
  ∀ (h : WireHandle) (s : State),
    let present (o : Order) (c : Cause) : Prop :=
      match c with
      | .cabinLimit => ∃ t, (bayAt s o.bay).tele = some t ∧ (450 < t.cabin ∨ t.cabin < o.target - 60)
      | .overdraw => ∃ t, (bayAt s o.bay).tele = some t ∧ 300 < t.power
      | .hvacFault => ∃ t, (bayAt s o.bay).tele = some t ∧ t.hvac = .fault
      | .silent => (bayAt s o.bay).link ≠ .online
    let faulted (o : Order) : Prop :=
      ∃ (r : TripRecord) (c : Cause), o.trip = some r ∧ (c = r.first ∨ inSet r.later c = true) ∧ present o c
    JudgedBy (.rearm h) s
      [(¬∃ i o, Names s h i o, .noOrder), (∃ i o, Names s h i o ∧ o.state ≠ .tripped, .notTripped),
       (∃ i o, Names s h i o ∧ faulted o, .stillFaulted)]
    ∧ ∀ i o, Names s h i o → o.state = .tripped → ¬faulted o →
        ∃ t, exec (.rearm h) s = .next (answer .ok [] t)
          ∧ PassRequested (setSlot s i { slotAt s i with order := some { o with state := .planned } }) t

/-! ### Resets -/

/-- The values each reset leaves, block by block. A power-on and a pin reset bring every block to the values of its chapter,
a pin reset keeping profiles and ceiling; a soft reset keeps generations, profiles, caps, windows, the enabled list, clock,
tuning values and mask. CURT asserted at the end of a reset is a curtailment arrival (R149). While RESET_N is low, and until a
power-on reset ends, the port takes no edge, MISO is high-impedance, ATTN_N is released and the line is in break (R141, R172,
R201): each of the two causes is held until its own end (log 9). A CS_N that is low when such a reset ends is ignored until it
has risen (R172). -/
def Obligations.ResetsLeaveTheirValues : Prop :=
  ∀ (curt : Bool) (s : State),
    let all (t : State) : Prop :=
      t.response = { code := .nothing, payload := [] } ∧ t.rx = .empty
      ∧ (∀ i, orderAt t i = none ∧ (slotAt t i).learnMark = false) ∧ (∀ b, queueAt t b = [])
      ∧ t.passMark = false
      ∧ t.load = { site := 0, feeders := #v[0, 0, 0, 0], state := .stale, age := none }
      ∧ t.cycleTimer = 16000000 ∧ t.cycle = none ∧ t.deferred = false ∧ t.exchange = none ∧ t.allstop = none
      ∧ t.sending = none
      ∧ t.hold = some (2 * 16000000) ∧ t.softCurtail = false ∧ t.lineState = t.curt.level
      ∧ t.periodTimer = t.tuning.period * 16000000
      ∧ (t.curt.level = false → t.flags = 0x80 ∧ t.pass = none)
      ∧ (t.curt.level = true → t.flags = 0xA0 ∧ ∃ p, t.pass = some p ∧ p.age = 0 ∧ p.snap.heads = [] ∧ p.snap.curtailed = true)
      ∧ ∀ b : Fin 32, bayAt t b =
          { enabled := (bayAt t b).enabled, link := if (bayAt t b).enabled then .unseen else .disabled, misses := 0
            stamp := none, tele := none, pending := { mode := .off, steps := 0, seq := 0 }
            applied := { mode := .off, steps := 0, seq := 0 }, lapse := none, overdraw := 0, reversal := none }
    let cold (t : State) : Prop :=
      all t ∧ attnLine t = !t.pins.held
      ∧ t.pins = { supply := t.pins.supply, resetN := t.pins.resetN, cs := t.pins.cs, inBits := [], driven := 0, rose := false }
      ∧ (s.pins.cs = .high → t.pins.cs = .high) ∧ (s.pins.cs ≠ .high → t.pins.cs = .ignored)
      ∧ (∀ i, (slotAt t i).gen = 0) ∧ (∀ b, (bayAt t b).enabled = false)
      ∧ t.clock = 0 ∧ t.phase = 0 ∧ t.mask = 0xFF ∧ t.curtailCap = 0 ∧ t.fallbackCap = 0
      ∧ t.tuning = { period := 15, dead := 180, lead := 1800, stale := 30, band := 10
                     selection := { cabinLimit := true, overdraw := true, hvacFault := true, silent := false } }
    let taken (p : ResetPhase) : ResetPhase := if p = .under then .under else .over
    (s.pins.held = false ↔ s.pins.supply = .over ∧ s.pins.resetN = .over)
    ∧ (∀ e, s.pins.held = true → PortEdge e → ∃ cs, pinEdge e s = { s with pins := { s.pins with cs := cs } })
    ∧ (s.pins.held = true → misoLevel s = none ∧ attnLine s = false ∧ ∀ later, linkLevel s later = { de := true, tx := false })
    ∧ (∀ e, s.pins.held = false → s.pins.cs = .ignored → PortEdge e → misoLevel s = none
        ∧ pinEdge e s = (if e = .csRise then { s with pins := { s.pins with cs := .high } } else s))
    ∧ (∀ e, e = .resetFall ∨ e = .supplyOn → ∃ cs, pinEdge e s =
        { s with
          rx := .empty
          pins :=
            { supply := if e = .supplyOn then .under else s.pins.supply
              resetN := if e = .resetFall then .under else s.pins.resetN
              cs := cs, inBits := [], driven := 0, rose := false } }
        ∧ (cs = .high ↔ s.pins.cs = .high))
    ∧ pinEdge .resetRise s =
        (if s.pins.resetN = .under then
          { s with pending := s.pending ++ [.pinReset s.curt.level], pins := { s.pins with resetN := .ending } }
         else s)
    ∧ pinEdge .supplyReady s =
        (if s.pins.supply = .under then
          { s with pending := s.pending ++ [.powerOnReset s.curt.line], pins := { s.pins with supply := .ending } }
         else s)
    ∧ (∃ t, exec (.powerOnReset curt) s = .next t ∧ cold t ∧ t.profiles = [] ∧ t.ceiling = 0 ∧ t.workingCap = 0
        ∧ t.pins.supply = taken s.pins.supply ∧ t.pins.resetN = s.pins.resetN
        ∧ t.curt = { line := curt, level := curt, since := 0 })
    ∧ (∃ t, exec (.pinReset curt) s = .next t ∧ cold t ∧ t.profiles = s.profiles ∧ t.ceiling = s.ceiling
        ∧ t.workingCap = s.ceiling ∧ t.pins.supply = s.pins.supply ∧ t.pins.resetN = taken s.pins.resetN
        ∧ t.curt = seen s.curt curt)
    ∧ ∃ t, exec .softReset s = .next t ∧ all t ∧ t.curt = s.curt ∧ t.pins = s.pins
        ∧ (∀ i, (slotAt t i).gen = (slotAt s i).gen) ∧ (∀ b, (bayAt t b).enabled = (bayAt s b).enabled)
        ∧ t.clock = s.clock ∧ t.phase = s.phase ∧ t.mask = s.mask ∧ t.tuning = s.tuning ∧ t.profiles = s.profiles
        ∧ t.ceiling = s.ceiling ∧ t.workingCap = s.workingCap ∧ t.curtailCap = s.curtailCap
        ∧ t.fallbackCap = s.fallbackCap ∧ t.windows = s.windows

/-! ### What every step keeps -/

/-- The state after a power-on reset is sound in every respect below. That the CURT line is not asserted in it, so that no
arrival is taken, and that CS_N is high, is the model's choice (log 1). -/
def Obligations.ResetStateIsSound : Prop :=
  LimitsSound State.reset ∧ ProfilesSound State.reset ∧ BaysSound State.reset ∧ LinkSound State.reset
    ∧ QueuesSound State.reset ∧ OrdersSound State.reset ∧ DeparturesAhead State.reset ∧ CommitSound State.reset
    ∧ ReversalSound State.reset ∧ HeadsSound State.reset ∧ PortSound State.reset ∧ LineSound State.reset

/-- Every step keeps every cap within its bound and every tuning value in its range, and the profile table within 64
profiles of distinct tags in their ranges (R56, R101 to R108, R111, R194). -/
def Obligations.SettingsStayInRange : Prop :=
  ∀ s t : State, LimitsSound s → ProfilesSound s → step s = .next t → LimitsSound t ∧ ProfilesSound t

/-- Every step keeps every bay record and the link as a whole in the form of R120 to R128, and the snapshot of a pass in
flight with at most one head for each bay (R77, R78). -/
def Obligations.BayTableStaysSound : Prop :=
  ∀ s t : State, BaysSound s → LinkSound s → HeadsSound s → step s = .next t → BaysSound t ∧ LinkSound t ∧ HeadsSound t

/-- Every step keeps the order table and the queues in the form of R1, R7, R8 and R43: a bay's queue holds exactly its live
orders, at most 3, at least 900 s apart; only the head is not QUEUED; a live order departs after the clock. -/
def Obligations.OrderTableStaysSound : Prop :=
  ∀ s t : State, QueuesSound s → OrdersSound s → DeparturesAhead s → step s = .next t →
    QueuesSound t ∧ OrdersSound t ∧ DeparturesAhead t

/-- The sum over all bays of the larger of applied and pending steps never exceeds the site ceiling, and is 0 while the
ceiling is unset (R92): every step keeps it, with what a pass in flight has charged; and between passes it can only fall. -/
def Obligations.CommittedPowerStaysUnderCeiling : Prop :=
  ∀ s t : State, CommitSound s → step s = .next t →
    CommitSound t ∧ committed t ≤ t.ceiling ∧ (s.pass = none → committed t ≤ committed s)

/-- Every step keeps HEAT and COOL apart on every bay: no pending grant faces an applied grant or a running reversal timer of
the opposite mode (R168, R169); and the snapshot of a pass in flight, on which the guard is judged, with at most one head for
each bay. -/
def Obligations.ReversalRestStaysSound : Prop :=
  ∀ s t : State, ReversalSound s → HeadsSound s → step s = .next t → ReversalSound t ∧ HeadsSound t

/-- One step of the law of R169: a step that gives a bay a mode finds it OFF with no reversal timer of the opposite mode
running; a step that takes a mode away starts the timer with that mode and the whole dead time; and while the bay stays OFF
the timer only counts down, until it expires. The three kinds of reset alone begin the bay's history anew. That a step which
takes a command passes no time and an idle one passes 640 cycles is the model's choice (log 2), as is that no time passes on
this timer while the part is held in reset (log 9). -/
def Obligations.HeatAndCoolAreSeparatedByRest : Prop :=
  ∀ (s t : State) (b : Fin 32), ReversalSound s → step s = .next t →
    let reset := (bayAt t b).reversal = none ∧ ∃ c rest, s.pending = c :: rest ∧ IsReset c
    ((bayAt t b).applied.mode ≠ .off → (bayAt t b).applied.mode ≠ (bayAt s b).applied.mode →
      (bayAt s b).applied.mode = .off
        ∧ ∀ r, (bayAt s b).reversal = some r → r.mode ≠ (bayAt t b).applied.mode.opposite)
    ∧ ((bayAt s b).applied.mode ≠ .off → (bayAt t b).applied.mode = .off →
        (bayAt t b).reversal = some { mode := (bayAt s b).applied.mode, left := s.tuning.dead * 16000000 } ∨ reset)
    ∧ ∀ r, (bayAt s b).applied.mode = .off → (bayAt t b).applied.mode = .off → (bayAt s b).reversal = some r →
        ((s.pending ≠ [] ∨ s.pins.held = true) ∧ (bayAt t b).reversal = some r)
          ∨ (s.pending = [] ∧ s.pins.held = false ∧ 640 < r.left
              ∧ (bayAt t b).reversal = some { r with left := r.left - 640 })
          ∨ (s.pending = [] ∧ s.pins.held = false ∧ r.left ≤ 640 ∧ (bayAt t b).reversal = none)
          ∨ ((∃ rest, s.pending = .reversalTimerExpiry b :: rest) ∧ (bayAt t b).reversal = none)
          ∨ reset
end

