-- ==== Sys2Proof/Laws/Fields.lean ====
section
/-! SUPPORT. Reading a payload back field by field, and lists of checks: the small lemmas the statements' vocabulary of
Safety.lean needs. -/

namespace Sys2Proof.Safety

open Sys2Proof.Machine

/-! ### Field values -/

@[simp] theorem beValue_one (b : Byte) : beValue [b] = b.toNat := by simp [beValue]

theorem beValue_byteOf (n : Nat) : beValue [byteOf n] = n % 256 := by simp [byteOf]

theorem beValue_bytes16 (w : Half) : beValue (bytes16 w) = w.toNat := by
  simp only [bytes16, beValue, List.foldl_cons, List.foldl_nil, BitVec.extractLsb'_toNat]
  omega

theorem beValue_bytes32 (w : Word) : beValue (bytes32 w) = w.toNat := by
  simp only [bytes32, beValue, List.foldl_cons, List.foldl_nil, BitVec.extractLsb'_toNat]
  omega

theorem beValue_be16 (n : Nat) : beValue (be16 n) = n % 65536 := by simp [be16, beValue_bytes16]

theorem beValue_be32 (n : Nat) : beValue (be32 n) = n % 4294967296 := by simp [be32, beValue_bytes32]

theorem beValue_beInt16 (i : Int) : beValue (beInt16 i) = twos 16 i % 65536 := by
  simp only [beInt16, beValue_bytes16, BitVec.toNat_ofInt, twos]
  omega

theorem beValue_beInt32 (i : Int) : beValue (beInt32 i) = twos 32 i % 4294967296 := by
  simp only [beInt32, beValue_bytes32, BitVec.toNat_ofInt, twos]
  omega

theorem beValue_boolByte (b : Bool) : beValue [boolByte b] = b.toNat := by cases b <;> rfl

/-! ### Reading field by field -/

@[simp] theorem readFields_nil : readFields [] [] = some [] := rfl

/-- A field of its width is read off the front. -/
theorem readFields_append {w : Nat} {p : List Byte} (h : p.length = w) (ws : List Nat) (q : List Byte) :
    readFields (w :: ws) (p ++ q) = (readFields ws q).map fun vs => beValue p :: vs := by
  subst h
  simp [readFields]

/-- A last field of its width. -/
theorem readFields_last {w : Nat} {p : List Byte} (h : p.length = w) : readFields [w] p = some [beValue p] := by
  simpa using readFields_append h [] []

/-- Two groups of fields, read one after the other. -/
theorem readFields_join (ws vs : List Nat) (p q : List Byte) (ns ms : List Nat) (hp : readFields ws p = some ns)
    (hq : readFields vs q = some ms) : readFields (ws ++ vs) (p ++ q) = some (ns ++ ms) := by
  induction ws generalizing p ns with
  | nil =>
    cases p with
    | nil => simp only [readFields_nil, Option.some.injEq] at hp; subst hp; simpa using hq
    | cons b p => simp [readFields] at hp
  | cons w ws ih =>
    simp only [readFields] at hp
    split at hp
    · cases hp
    · rename_i hw
      simp only [Option.map_eq_some_iff] at hp
      obtain ⟨l, hl, rfl⟩ := hp
      have hlen : ¬(p ++ q).length < w := by simp; omega
      have hd : (p ++ q).drop w = p.drop w ++ q := List.drop_append_of_le_length (by omega)
      have ht : (p ++ q).take w = p.take w := List.take_append_of_le_length (by omega)
      simp only [List.cons_append, readFields, hlen, if_false, hd, ht, ih _ _ hl, Option.map_some]

@[simp] theorem atWidths_nil : atWidths [] [] = [] := rfl

@[simp] theorem atWidths_cons (w v : Nat) (ws vs : List Nat) : atWidths (w :: ws) (v :: vs) = v % 256 ^ w :: atWidths ws vs := rfl

theorem atWidths_append (ws vs xs ys : List Nat) (h : ws.length = vs.length) :
    atWidths (ws ++ xs) (vs ++ ys) = atWidths ws vs ++ atWidths xs ys := by
  unfold atWidths
  exact List.zipWith_append h

/-! ### Lists of checks -/

@[simp] theorem firstOf_nil {α : Type} (d a : α) : FirstOf [] d a ↔ a = d := Iff.rfl

theorem firstOf_hit {α : Type} {p : Prop} {v d : α} {rest : List (Prop × α)} (h : p) : FirstOf ((p, v) :: rest) d v :=
  .inl ⟨h, rfl⟩

theorem firstOf_miss {α : Type} {p : Prop} {v d a : α} {rest : List (Prop × α)} (h : ¬p) (r : FirstOf rest d a) :
    FirstOf ((p, v) :: rest) d a := .inr ⟨h, r⟩

/-- Exactly one value is first. -/
theorem firstOf_unique {α : Type} (l : List (Prop × α)) (d a b : α) (ha : FirstOf l d a) (hb : FirstOf l d b) : a = b := by
  induction l with
  | nil => exact ha.trans hb.symm
  | cons x l ih =>
    rcases ha with ⟨h, rfl⟩ | ⟨h, ha⟩
    · rcases hb with ⟨-, rfl⟩ | ⟨n, -⟩
      · rfl
      · exact absurd h n
    · rcases hb with ⟨n, -⟩ | ⟨-, hb⟩
      · exact absurd n h
      · exact ih ha hb

/-- A command that refuses with a code other than OK is judged by any list whose first hit is that code. -/
theorem judgedBy_refusal {c : Instr} {s : State} {checks : List (Prop × RespCode)} {code : RespCode}
    (run : exec c s = .next (refuse code s)) (first : FirstOf checks .ok code) : JudgedBy c s checks :=
  ⟨_, run, first, fun _ => rfl⟩

/-- A command answered OK is judged by any list none of whose checks holds. -/
theorem judgedBy_ok {c : Instr} {s t : State} {checks : List (Prop × RespCode)} {p : List Byte}
    (run : exec c s = .next (answer .ok p t)) (first : FirstOf checks .ok .ok) : JudgedBy c s checks :=
  ⟨_, run, first, fun n => absurd rfl n⟩

end Sys2Proof.Safety
end

