-- ==== Sys2Proof/Laws/State.lean ====
section
/-! SUPPORT. One lemma per field per update of the shared operations, true by rfl, so that no proof unfolds a record
update; then what the updates do to the slot, queue or bay they name and to the others. -/

namespace Sys2Proof.Machine

/-! ### answer -/

@[simp] theorem answer_pending (c : RespCode) (p : List Byte) (s : State) : (answer c p s).pending = s.pending := rfl
@[simp] theorem answer_response (c : RespCode) (p : List Byte) (s : State) : (answer c p s).response = { code := c, payload := p } := rfl
@[simp] theorem answer_rx (c : RespCode) (p : List Byte) (s : State) : (answer c p s).rx = .empty := rfl
@[simp] theorem answer_pins (c : RespCode) (p : List Byte) (s : State) : (answer c p s).pins = s.pins := rfl
@[simp] theorem answer_slots (c : RespCode) (p : List Byte) (s : State) : (answer c p s).slots = s.slots := rfl
@[simp] theorem answer_queues (c : RespCode) (p : List Byte) (s : State) : (answer c p s).queues = s.queues := rfl
@[simp] theorem answer_profiles (c : RespCode) (p : List Byte) (s : State) : (answer c p s).profiles = s.profiles := rfl
@[simp] theorem answer_periodTimer (c : RespCode) (p : List Byte) (s : State) : (answer c p s).periodTimer = s.periodTimer := rfl
@[simp] theorem answer_pass (c : RespCode) (p : List Byte) (s : State) : (answer c p s).pass = s.pass := rfl
@[simp] theorem answer_passMark (c : RespCode) (p : List Byte) (s : State) : (answer c p s).passMark = s.passMark := rfl
@[simp] theorem answer_ceiling (c : RespCode) (p : List Byte) (s : State) : (answer c p s).ceiling = s.ceiling := rfl
@[simp] theorem answer_workingCap (c : RespCode) (p : List Byte) (s : State) : (answer c p s).workingCap = s.workingCap := rfl
@[simp] theorem answer_curtailCap (c : RespCode) (p : List Byte) (s : State) : (answer c p s).curtailCap = s.curtailCap := rfl
@[simp] theorem answer_fallbackCap (c : RespCode) (p : List Byte) (s : State) : (answer c p s).fallbackCap = s.fallbackCap := rfl
@[simp] theorem answer_windows (c : RespCode) (p : List Byte) (s : State) : (answer c p s).windows = s.windows := rfl
@[simp] theorem answer_load (c : RespCode) (p : List Byte) (s : State) : (answer c p s).load = s.load := rfl
@[simp] theorem answer_bays (c : RespCode) (p : List Byte) (s : State) : (answer c p s).bays = s.bays := rfl
@[simp] theorem answer_cycleTimer (c : RespCode) (p : List Byte) (s : State) : (answer c p s).cycleTimer = s.cycleTimer := rfl
@[simp] theorem answer_cycle (c : RespCode) (p : List Byte) (s : State) : (answer c p s).cycle = s.cycle := rfl
@[simp] theorem answer_deferred (c : RespCode) (p : List Byte) (s : State) : (answer c p s).deferred = s.deferred := rfl
@[simp] theorem answer_exchange (c : RespCode) (p : List Byte) (s : State) : (answer c p s).exchange = s.exchange := rfl
@[simp] theorem answer_allstop (c : RespCode) (p : List Byte) (s : State) : (answer c p s).allstop = s.allstop := rfl
@[simp] theorem answer_sending (c : RespCode) (p : List Byte) (s : State) : (answer c p s).sending = s.sending := rfl
@[simp] theorem answer_hold (c : RespCode) (p : List Byte) (s : State) : (answer c p s).hold = s.hold := rfl
@[simp] theorem answer_grantFrame (c : RespCode) (p : List Byte) (s : State) : (answer c p s).grantFrame = s.grantFrame := rfl
@[simp] theorem answer_allstopFrame (c : RespCode) (p : List Byte) (s : State) : (answer c p s).allstopFrame = s.allstopFrame := rfl
@[simp] theorem answer_curt (c : RespCode) (p : List Byte) (s : State) : (answer c p s).curt = s.curt := rfl
@[simp] theorem answer_lineState (c : RespCode) (p : List Byte) (s : State) : (answer c p s).lineState = s.lineState := rfl
@[simp] theorem answer_softCurtail (c : RespCode) (p : List Byte) (s : State) : (answer c p s).softCurtail = s.softCurtail := rfl
@[simp] theorem answer_clock (c : RespCode) (p : List Byte) (s : State) : (answer c p s).clock = s.clock := rfl
@[simp] theorem answer_phase (c : RespCode) (p : List Byte) (s : State) : (answer c p s).phase = s.phase := rfl
@[simp] theorem answer_tuning (c : RespCode) (p : List Byte) (s : State) : (answer c p s).tuning = s.tuning := rfl
@[simp] theorem answer_flags (c : RespCode) (p : List Byte) (s : State) : (answer c p s).flags = s.flags := rfl
@[simp] theorem answer_mask (c : RespCode) (p : List Byte) (s : State) : (answer c p s).mask = s.mask := rfl
@[simp] theorem answer_freeIndex (c : RespCode) (p : List Byte) (s : State) : (answer c p s).freeIndex = s.freeIndex := rfl

/-! ### refuse -/

@[simp] theorem refuse_pending (c : RespCode) (s : State) : (refuse c s).pending = s.pending := rfl
@[simp] theorem refuse_response (c : RespCode) (s : State) : (refuse c s).response = { code := c, payload := [] } := rfl
@[simp] theorem refuse_rx (c : RespCode) (s : State) : (refuse c s).rx = .empty := rfl
@[simp] theorem refuse_pins (c : RespCode) (s : State) : (refuse c s).pins = s.pins := rfl
@[simp] theorem refuse_slots (c : RespCode) (s : State) : (refuse c s).slots = s.slots := rfl
@[simp] theorem refuse_queues (c : RespCode) (s : State) : (refuse c s).queues = s.queues := rfl
@[simp] theorem refuse_profiles (c : RespCode) (s : State) : (refuse c s).profiles = s.profiles := rfl
@[simp] theorem refuse_periodTimer (c : RespCode) (s : State) : (refuse c s).periodTimer = s.periodTimer := rfl
@[simp] theorem refuse_pass (c : RespCode) (s : State) : (refuse c s).pass = s.pass := rfl
@[simp] theorem refuse_passMark (c : RespCode) (s : State) : (refuse c s).passMark = s.passMark := rfl
@[simp] theorem refuse_ceiling (c : RespCode) (s : State) : (refuse c s).ceiling = s.ceiling := rfl
@[simp] theorem refuse_workingCap (c : RespCode) (s : State) : (refuse c s).workingCap = s.workingCap := rfl
@[simp] theorem refuse_curtailCap (c : RespCode) (s : State) : (refuse c s).curtailCap = s.curtailCap := rfl
@[simp] theorem refuse_fallbackCap (c : RespCode) (s : State) : (refuse c s).fallbackCap = s.fallbackCap := rfl
@[simp] theorem refuse_windows (c : RespCode) (s : State) : (refuse c s).windows = s.windows := rfl
@[simp] theorem refuse_load (c : RespCode) (s : State) : (refuse c s).load = s.load := rfl
@[simp] theorem refuse_bays (c : RespCode) (s : State) : (refuse c s).bays = s.bays := rfl
@[simp] theorem refuse_cycleTimer (c : RespCode) (s : State) : (refuse c s).cycleTimer = s.cycleTimer := rfl
@[simp] theorem refuse_cycle (c : RespCode) (s : State) : (refuse c s).cycle = s.cycle := rfl
@[simp] theorem refuse_deferred (c : RespCode) (s : State) : (refuse c s).deferred = s.deferred := rfl
@[simp] theorem refuse_exchange (c : RespCode) (s : State) : (refuse c s).exchange = s.exchange := rfl
@[simp] theorem refuse_allstop (c : RespCode) (s : State) : (refuse c s).allstop = s.allstop := rfl
@[simp] theorem refuse_sending (c : RespCode) (s : State) : (refuse c s).sending = s.sending := rfl
@[simp] theorem refuse_hold (c : RespCode) (s : State) : (refuse c s).hold = s.hold := rfl
@[simp] theorem refuse_grantFrame (c : RespCode) (s : State) : (refuse c s).grantFrame = s.grantFrame := rfl
@[simp] theorem refuse_allstopFrame (c : RespCode) (s : State) : (refuse c s).allstopFrame = s.allstopFrame := rfl
@[simp] theorem refuse_curt (c : RespCode) (s : State) : (refuse c s).curt = s.curt := rfl
@[simp] theorem refuse_lineState (c : RespCode) (s : State) : (refuse c s).lineState = s.lineState := rfl
@[simp] theorem refuse_softCurtail (c : RespCode) (s : State) : (refuse c s).softCurtail = s.softCurtail := rfl
@[simp] theorem refuse_clock (c : RespCode) (s : State) : (refuse c s).clock = s.clock := rfl
@[simp] theorem refuse_phase (c : RespCode) (s : State) : (refuse c s).phase = s.phase := rfl
@[simp] theorem refuse_tuning (c : RespCode) (s : State) : (refuse c s).tuning = s.tuning := rfl
@[simp] theorem refuse_flags (c : RespCode) (s : State) : (refuse c s).flags = s.flags := rfl
@[simp] theorem refuse_mask (c : RespCode) (s : State) : (refuse c s).mask = s.mask := rfl
@[simp] theorem refuse_freeIndex (c : RespCode) (s : State) : (refuse c s).freeIndex = s.freeIndex := rfl

/-! ### raise -/

@[simp] theorem raise_pending (f : EventFlag) (s : State) : (raise f s).pending = s.pending := rfl
@[simp] theorem raise_response (f : EventFlag) (s : State) : (raise f s).response = s.response := rfl
@[simp] theorem raise_rx (f : EventFlag) (s : State) : (raise f s).rx = s.rx := rfl
@[simp] theorem raise_pins (f : EventFlag) (s : State) : (raise f s).pins = s.pins := rfl
@[simp] theorem raise_slots (f : EventFlag) (s : State) : (raise f s).slots = s.slots := rfl
@[simp] theorem raise_queues (f : EventFlag) (s : State) : (raise f s).queues = s.queues := rfl
@[simp] theorem raise_profiles (f : EventFlag) (s : State) : (raise f s).profiles = s.profiles := rfl
@[simp] theorem raise_periodTimer (f : EventFlag) (s : State) : (raise f s).periodTimer = s.periodTimer := rfl
@[simp] theorem raise_pass (f : EventFlag) (s : State) : (raise f s).pass = s.pass := rfl
@[simp] theorem raise_passMark (f : EventFlag) (s : State) : (raise f s).passMark = s.passMark := rfl
@[simp] theorem raise_ceiling (f : EventFlag) (s : State) : (raise f s).ceiling = s.ceiling := rfl
@[simp] theorem raise_workingCap (f : EventFlag) (s : State) : (raise f s).workingCap = s.workingCap := rfl
@[simp] theorem raise_curtailCap (f : EventFlag) (s : State) : (raise f s).curtailCap = s.curtailCap := rfl
@[simp] theorem raise_fallbackCap (f : EventFlag) (s : State) : (raise f s).fallbackCap = s.fallbackCap := rfl
@[simp] theorem raise_windows (f : EventFlag) (s : State) : (raise f s).windows = s.windows := rfl
@[simp] theorem raise_load (f : EventFlag) (s : State) : (raise f s).load = s.load := rfl
@[simp] theorem raise_bays (f : EventFlag) (s : State) : (raise f s).bays = s.bays := rfl
@[simp] theorem raise_cycleTimer (f : EventFlag) (s : State) : (raise f s).cycleTimer = s.cycleTimer := rfl
@[simp] theorem raise_cycle (f : EventFlag) (s : State) : (raise f s).cycle = s.cycle := rfl
@[simp] theorem raise_deferred (f : EventFlag) (s : State) : (raise f s).deferred = s.deferred := rfl
@[simp] theorem raise_exchange (f : EventFlag) (s : State) : (raise f s).exchange = s.exchange := rfl
@[simp] theorem raise_allstop (f : EventFlag) (s : State) : (raise f s).allstop = s.allstop := rfl
@[simp] theorem raise_sending (f : EventFlag) (s : State) : (raise f s).sending = s.sending := rfl
@[simp] theorem raise_hold (f : EventFlag) (s : State) : (raise f s).hold = s.hold := rfl
@[simp] theorem raise_grantFrame (f : EventFlag) (s : State) : (raise f s).grantFrame = s.grantFrame := rfl
@[simp] theorem raise_allstopFrame (f : EventFlag) (s : State) : (raise f s).allstopFrame = s.allstopFrame := rfl
@[simp] theorem raise_curt (f : EventFlag) (s : State) : (raise f s).curt = s.curt := rfl
@[simp] theorem raise_lineState (f : EventFlag) (s : State) : (raise f s).lineState = s.lineState := rfl
@[simp] theorem raise_softCurtail (f : EventFlag) (s : State) : (raise f s).softCurtail = s.softCurtail := rfl
@[simp] theorem raise_clock (f : EventFlag) (s : State) : (raise f s).clock = s.clock := rfl
@[simp] theorem raise_phase (f : EventFlag) (s : State) : (raise f s).phase = s.phase := rfl
@[simp] theorem raise_tuning (f : EventFlag) (s : State) : (raise f s).tuning = s.tuning := rfl
@[simp] theorem raise_flags (f : EventFlag) (s : State) : (raise f s).flags = s.flags ||| f.bit := rfl
@[simp] theorem raise_mask (f : EventFlag) (s : State) : (raise f s).mask = s.mask := rfl
@[simp] theorem raise_freeIndex (f : EventFlag) (s : State) : (raise f s).freeIndex = s.freeIndex := rfl

/-! ### setBay -/

@[simp] theorem setBay_pending (s : State) (b : Fin 32) (x : Bay) : (setBay s b x).pending = s.pending := rfl
@[simp] theorem setBay_response (s : State) (b : Fin 32) (x : Bay) : (setBay s b x).response = s.response := rfl
@[simp] theorem setBay_rx (s : State) (b : Fin 32) (x : Bay) : (setBay s b x).rx = s.rx := rfl
@[simp] theorem setBay_pins (s : State) (b : Fin 32) (x : Bay) : (setBay s b x).pins = s.pins := rfl
@[simp] theorem setBay_slots (s : State) (b : Fin 32) (x : Bay) : (setBay s b x).slots = s.slots := rfl
@[simp] theorem setBay_queues (s : State) (b : Fin 32) (x : Bay) : (setBay s b x).queues = s.queues := rfl
@[simp] theorem setBay_profiles (s : State) (b : Fin 32) (x : Bay) : (setBay s b x).profiles = s.profiles := rfl
@[simp] theorem setBay_periodTimer (s : State) (b : Fin 32) (x : Bay) : (setBay s b x).periodTimer = s.periodTimer := rfl
@[simp] theorem setBay_pass (s : State) (b : Fin 32) (x : Bay) : (setBay s b x).pass = s.pass := rfl
@[simp] theorem setBay_passMark (s : State) (b : Fin 32) (x : Bay) : (setBay s b x).passMark = s.passMark := rfl
@[simp] theorem setBay_ceiling (s : State) (b : Fin 32) (x : Bay) : (setBay s b x).ceiling = s.ceiling := rfl
@[simp] theorem setBay_workingCap (s : State) (b : Fin 32) (x : Bay) : (setBay s b x).workingCap = s.workingCap := rfl
@[simp] theorem setBay_curtailCap (s : State) (b : Fin 32) (x : Bay) : (setBay s b x).curtailCap = s.curtailCap := rfl
@[simp] theorem setBay_fallbackCap (s : State) (b : Fin 32) (x : Bay) : (setBay s b x).fallbackCap = s.fallbackCap := rfl
@[simp] theorem setBay_windows (s : State) (b : Fin 32) (x : Bay) : (setBay s b x).windows = s.windows := rfl
@[simp] theorem setBay_load (s : State) (b : Fin 32) (x : Bay) : (setBay s b x).load = s.load := rfl
@[simp] theorem setBay_cycleTimer (s : State) (b : Fin 32) (x : Bay) : (setBay s b x).cycleTimer = s.cycleTimer := rfl
@[simp] theorem setBay_cycle (s : State) (b : Fin 32) (x : Bay) : (setBay s b x).cycle = s.cycle := rfl
@[simp] theorem setBay_deferred (s : State) (b : Fin 32) (x : Bay) : (setBay s b x).deferred = s.deferred := rfl
@[simp] theorem setBay_exchange (s : State) (b : Fin 32) (x : Bay) : (setBay s b x).exchange = s.exchange := rfl
@[simp] theorem setBay_allstop (s : State) (b : Fin 32) (x : Bay) : (setBay s b x).allstop = s.allstop := rfl
@[simp] theorem setBay_sending (s : State) (b : Fin 32) (x : Bay) : (setBay s b x).sending = s.sending := rfl
@[simp] theorem setBay_hold (s : State) (b : Fin 32) (x : Bay) : (setBay s b x).hold = s.hold := rfl
@[simp] theorem setBay_grantFrame (s : State) (b : Fin 32) (x : Bay) : (setBay s b x).grantFrame = s.grantFrame := rfl
@[simp] theorem setBay_allstopFrame (s : State) (b : Fin 32) (x : Bay) : (setBay s b x).allstopFrame = s.allstopFrame := rfl
@[simp] theorem setBay_curt (s : State) (b : Fin 32) (x : Bay) : (setBay s b x).curt = s.curt := rfl
@[simp] theorem setBay_lineState (s : State) (b : Fin 32) (x : Bay) : (setBay s b x).lineState = s.lineState := rfl
@[simp] theorem setBay_softCurtail (s : State) (b : Fin 32) (x : Bay) : (setBay s b x).softCurtail = s.softCurtail := rfl
@[simp] theorem setBay_clock (s : State) (b : Fin 32) (x : Bay) : (setBay s b x).clock = s.clock := rfl
@[simp] theorem setBay_phase (s : State) (b : Fin 32) (x : Bay) : (setBay s b x).phase = s.phase := rfl
@[simp] theorem setBay_tuning (s : State) (b : Fin 32) (x : Bay) : (setBay s b x).tuning = s.tuning := rfl
@[simp] theorem setBay_flags (s : State) (b : Fin 32) (x : Bay) : (setBay s b x).flags = s.flags := rfl
@[simp] theorem setBay_mask (s : State) (b : Fin 32) (x : Bay) : (setBay s b x).mask = s.mask := rfl
@[simp] theorem setBay_freeIndex (s : State) (b : Fin 32) (x : Bay) : (setBay s b x).freeIndex = s.freeIndex := rfl

/-! ### setSlot -/

@[simp] theorem setSlot_pending (s : State) (i : Fin 48) (x : Slot) : (setSlot s i x).pending = s.pending := rfl
@[simp] theorem setSlot_response (s : State) (i : Fin 48) (x : Slot) : (setSlot s i x).response = s.response := rfl
@[simp] theorem setSlot_rx (s : State) (i : Fin 48) (x : Slot) : (setSlot s i x).rx = s.rx := rfl
@[simp] theorem setSlot_pins (s : State) (i : Fin 48) (x : Slot) : (setSlot s i x).pins = s.pins := rfl
@[simp] theorem setSlot_queues (s : State) (i : Fin 48) (x : Slot) : (setSlot s i x).queues = s.queues := rfl
@[simp] theorem setSlot_profiles (s : State) (i : Fin 48) (x : Slot) : (setSlot s i x).profiles = s.profiles := rfl
@[simp] theorem setSlot_periodTimer (s : State) (i : Fin 48) (x : Slot) : (setSlot s i x).periodTimer = s.periodTimer := rfl
@[simp] theorem setSlot_pass (s : State) (i : Fin 48) (x : Slot) : (setSlot s i x).pass = s.pass := rfl
@[simp] theorem setSlot_passMark (s : State) (i : Fin 48) (x : Slot) : (setSlot s i x).passMark = s.passMark := rfl
@[simp] theorem setSlot_ceiling (s : State) (i : Fin 48) (x : Slot) : (setSlot s i x).ceiling = s.ceiling := rfl
@[simp] theorem setSlot_workingCap (s : State) (i : Fin 48) (x : Slot) : (setSlot s i x).workingCap = s.workingCap := rfl
@[simp] theorem setSlot_curtailCap (s : State) (i : Fin 48) (x : Slot) : (setSlot s i x).curtailCap = s.curtailCap := rfl
@[simp] theorem setSlot_fallbackCap (s : State) (i : Fin 48) (x : Slot) : (setSlot s i x).fallbackCap = s.fallbackCap := rfl
@[simp] theorem setSlot_windows (s : State) (i : Fin 48) (x : Slot) : (setSlot s i x).windows = s.windows := rfl
@[simp] theorem setSlot_load (s : State) (i : Fin 48) (x : Slot) : (setSlot s i x).load = s.load := rfl
@[simp] theorem setSlot_bays (s : State) (i : Fin 48) (x : Slot) : (setSlot s i x).bays = s.bays := rfl
@[simp] theorem setSlot_cycleTimer (s : State) (i : Fin 48) (x : Slot) : (setSlot s i x).cycleTimer = s.cycleTimer := rfl
@[simp] theorem setSlot_cycle (s : State) (i : Fin 48) (x : Slot) : (setSlot s i x).cycle = s.cycle := rfl
@[simp] theorem setSlot_deferred (s : State) (i : Fin 48) (x : Slot) : (setSlot s i x).deferred = s.deferred := rfl
@[simp] theorem setSlot_exchange (s : State) (i : Fin 48) (x : Slot) : (setSlot s i x).exchange = s.exchange := rfl
@[simp] theorem setSlot_allstop (s : State) (i : Fin 48) (x : Slot) : (setSlot s i x).allstop = s.allstop := rfl
@[simp] theorem setSlot_sending (s : State) (i : Fin 48) (x : Slot) : (setSlot s i x).sending = s.sending := rfl
@[simp] theorem setSlot_hold (s : State) (i : Fin 48) (x : Slot) : (setSlot s i x).hold = s.hold := rfl
@[simp] theorem setSlot_grantFrame (s : State) (i : Fin 48) (x : Slot) : (setSlot s i x).grantFrame = s.grantFrame := rfl
@[simp] theorem setSlot_allstopFrame (s : State) (i : Fin 48) (x : Slot) : (setSlot s i x).allstopFrame = s.allstopFrame := rfl
@[simp] theorem setSlot_curt (s : State) (i : Fin 48) (x : Slot) : (setSlot s i x).curt = s.curt := rfl
@[simp] theorem setSlot_lineState (s : State) (i : Fin 48) (x : Slot) : (setSlot s i x).lineState = s.lineState := rfl
@[simp] theorem setSlot_softCurtail (s : State) (i : Fin 48) (x : Slot) : (setSlot s i x).softCurtail = s.softCurtail := rfl
@[simp] theorem setSlot_clock (s : State) (i : Fin 48) (x : Slot) : (setSlot s i x).clock = s.clock := rfl
@[simp] theorem setSlot_phase (s : State) (i : Fin 48) (x : Slot) : (setSlot s i x).phase = s.phase := rfl
@[simp] theorem setSlot_tuning (s : State) (i : Fin 48) (x : Slot) : (setSlot s i x).tuning = s.tuning := rfl
@[simp] theorem setSlot_flags (s : State) (i : Fin 48) (x : Slot) : (setSlot s i x).flags = s.flags := rfl
@[simp] theorem setSlot_mask (s : State) (i : Fin 48) (x : Slot) : (setSlot s i x).mask = s.mask := rfl
@[simp] theorem setSlot_freeIndex (s : State) (i : Fin 48) (x : Slot) : (setSlot s i x).freeIndex = s.freeIndex := rfl

/-! ### setQueue -/

@[simp] theorem setQueue_pending (s : State) (b : Fin 32) (q : List (Fin 48)) : (setQueue s b q).pending = s.pending := rfl
@[simp] theorem setQueue_response (s : State) (b : Fin 32) (q : List (Fin 48)) : (setQueue s b q).response = s.response := rfl
@[simp] theorem setQueue_rx (s : State) (b : Fin 32) (q : List (Fin 48)) : (setQueue s b q).rx = s.rx := rfl
@[simp] theorem setQueue_pins (s : State) (b : Fin 32) (q : List (Fin 48)) : (setQueue s b q).pins = s.pins := rfl
@[simp] theorem setQueue_slots (s : State) (b : Fin 32) (q : List (Fin 48)) : (setQueue s b q).slots = s.slots := rfl
@[simp] theorem setQueue_profiles (s : State) (b : Fin 32) (q : List (Fin 48)) : (setQueue s b q).profiles = s.profiles := rfl
@[simp] theorem setQueue_periodTimer (s : State) (b : Fin 32) (q : List (Fin 48)) : (setQueue s b q).periodTimer = s.periodTimer := rfl
@[simp] theorem setQueue_pass (s : State) (b : Fin 32) (q : List (Fin 48)) : (setQueue s b q).pass = s.pass := rfl
@[simp] theorem setQueue_passMark (s : State) (b : Fin 32) (q : List (Fin 48)) : (setQueue s b q).passMark = s.passMark := rfl
@[simp] theorem setQueue_ceiling (s : State) (b : Fin 32) (q : List (Fin 48)) : (setQueue s b q).ceiling = s.ceiling := rfl
@[simp] theorem setQueue_workingCap (s : State) (b : Fin 32) (q : List (Fin 48)) : (setQueue s b q).workingCap = s.workingCap := rfl
@[simp] theorem setQueue_curtailCap (s : State) (b : Fin 32) (q : List (Fin 48)) : (setQueue s b q).curtailCap = s.curtailCap := rfl
@[simp] theorem setQueue_fallbackCap (s : State) (b : Fin 32) (q : List (Fin 48)) : (setQueue s b q).fallbackCap = s.fallbackCap := rfl
@[simp] theorem setQueue_windows (s : State) (b : Fin 32) (q : List (Fin 48)) : (setQueue s b q).windows = s.windows := rfl
@[simp] theorem setQueue_load (s : State) (b : Fin 32) (q : List (Fin 48)) : (setQueue s b q).load = s.load := rfl
@[simp] theorem setQueue_bays (s : State) (b : Fin 32) (q : List (Fin 48)) : (setQueue s b q).bays = s.bays := rfl
@[simp] theorem setQueue_cycleTimer (s : State) (b : Fin 32) (q : List (Fin 48)) : (setQueue s b q).cycleTimer = s.cycleTimer := rfl
@[simp] theorem setQueue_cycle (s : State) (b : Fin 32) (q : List (Fin 48)) : (setQueue s b q).cycle = s.cycle := rfl
@[simp] theorem setQueue_deferred (s : State) (b : Fin 32) (q : List (Fin 48)) : (setQueue s b q).deferred = s.deferred := rfl
@[simp] theorem setQueue_exchange (s : State) (b : Fin 32) (q : List (Fin 48)) : (setQueue s b q).exchange = s.exchange := rfl
@[simp] theorem setQueue_allstop (s : State) (b : Fin 32) (q : List (Fin 48)) : (setQueue s b q).allstop = s.allstop := rfl
@[simp] theorem setQueue_sending (s : State) (b : Fin 32) (q : List (Fin 48)) : (setQueue s b q).sending = s.sending := rfl
@[simp] theorem setQueue_hold (s : State) (b : Fin 32) (q : List (Fin 48)) : (setQueue s b q).hold = s.hold := rfl
@[simp] theorem setQueue_grantFrame (s : State) (b : Fin 32) (q : List (Fin 48)) : (setQueue s b q).grantFrame = s.grantFrame := rfl
@[simp] theorem setQueue_allstopFrame (s : State) (b : Fin 32) (q : List (Fin 48)) : (setQueue s b q).allstopFrame = s.allstopFrame := rfl
@[simp] theorem setQueue_curt (s : State) (b : Fin 32) (q : List (Fin 48)) : (setQueue s b q).curt = s.curt := rfl
@[simp] theorem setQueue_lineState (s : State) (b : Fin 32) (q : List (Fin 48)) : (setQueue s b q).lineState = s.lineState := rfl
@[simp] theorem setQueue_softCurtail (s : State) (b : Fin 32) (q : List (Fin 48)) : (setQueue s b q).softCurtail = s.softCurtail := rfl
@[simp] theorem setQueue_clock (s : State) (b : Fin 32) (q : List (Fin 48)) : (setQueue s b q).clock = s.clock := rfl
@[simp] theorem setQueue_phase (s : State) (b : Fin 32) (q : List (Fin 48)) : (setQueue s b q).phase = s.phase := rfl
@[simp] theorem setQueue_tuning (s : State) (b : Fin 32) (q : List (Fin 48)) : (setQueue s b q).tuning = s.tuning := rfl
@[simp] theorem setQueue_flags (s : State) (b : Fin 32) (q : List (Fin 48)) : (setQueue s b q).flags = s.flags := rfl
@[simp] theorem setQueue_mask (s : State) (b : Fin 32) (q : List (Fin 48)) : (setQueue s b q).mask = s.mask := rfl
@[simp] theorem setQueue_freeIndex (s : State) (b : Fin 32) (q : List (Fin 48)) : (setQueue s b q).freeIndex = s.freeIndex := rfl

/-! ### mapBays -/

@[simp] theorem mapBays_pending (f : Fin 32 → Bay → Bay) (s : State) : (mapBays f s).pending = s.pending := by dsimp only [mapBays]
@[simp] theorem mapBays_response (f : Fin 32 → Bay → Bay) (s : State) : (mapBays f s).response = s.response := by dsimp only [mapBays]
@[simp] theorem mapBays_rx (f : Fin 32 → Bay → Bay) (s : State) : (mapBays f s).rx = s.rx := by dsimp only [mapBays]
@[simp] theorem mapBays_pins (f : Fin 32 → Bay → Bay) (s : State) : (mapBays f s).pins = s.pins := by dsimp only [mapBays]
@[simp] theorem mapBays_slots (f : Fin 32 → Bay → Bay) (s : State) : (mapBays f s).slots = s.slots := by dsimp only [mapBays]
@[simp] theorem mapBays_queues (f : Fin 32 → Bay → Bay) (s : State) : (mapBays f s).queues = s.queues := by dsimp only [mapBays]
@[simp] theorem mapBays_profiles (f : Fin 32 → Bay → Bay) (s : State) : (mapBays f s).profiles = s.profiles := by dsimp only [mapBays]
@[simp] theorem mapBays_periodTimer (f : Fin 32 → Bay → Bay) (s : State) : (mapBays f s).periodTimer = s.periodTimer := by dsimp only [mapBays]
@[simp] theorem mapBays_pass (f : Fin 32 → Bay → Bay) (s : State) : (mapBays f s).pass = s.pass := by dsimp only [mapBays]
@[simp] theorem mapBays_passMark (f : Fin 32 → Bay → Bay) (s : State) : (mapBays f s).passMark = s.passMark := by dsimp only [mapBays]
@[simp] theorem mapBays_ceiling (f : Fin 32 → Bay → Bay) (s : State) : (mapBays f s).ceiling = s.ceiling := by dsimp only [mapBays]
@[simp] theorem mapBays_workingCap (f : Fin 32 → Bay → Bay) (s : State) : (mapBays f s).workingCap = s.workingCap := by dsimp only [mapBays]
@[simp] theorem mapBays_curtailCap (f : Fin 32 → Bay → Bay) (s : State) : (mapBays f s).curtailCap = s.curtailCap := by dsimp only [mapBays]
@[simp] theorem mapBays_fallbackCap (f : Fin 32 → Bay → Bay) (s : State) : (mapBays f s).fallbackCap = s.fallbackCap := by dsimp only [mapBays]
@[simp] theorem mapBays_windows (f : Fin 32 → Bay → Bay) (s : State) : (mapBays f s).windows = s.windows := by dsimp only [mapBays]
@[simp] theorem mapBays_load (f : Fin 32 → Bay → Bay) (s : State) : (mapBays f s).load = s.load := by dsimp only [mapBays]
@[simp] theorem mapBays_cycleTimer (f : Fin 32 → Bay → Bay) (s : State) : (mapBays f s).cycleTimer = s.cycleTimer := by dsimp only [mapBays]
@[simp] theorem mapBays_cycle (f : Fin 32 → Bay → Bay) (s : State) : (mapBays f s).cycle = s.cycle := by dsimp only [mapBays]
@[simp] theorem mapBays_deferred (f : Fin 32 → Bay → Bay) (s : State) : (mapBays f s).deferred = s.deferred := by dsimp only [mapBays]
@[simp] theorem mapBays_exchange (f : Fin 32 → Bay → Bay) (s : State) : (mapBays f s).exchange = s.exchange := by dsimp only [mapBays]
@[simp] theorem mapBays_allstop (f : Fin 32 → Bay → Bay) (s : State) : (mapBays f s).allstop = s.allstop := by dsimp only [mapBays]
@[simp] theorem mapBays_sending (f : Fin 32 → Bay → Bay) (s : State) : (mapBays f s).sending = s.sending := by dsimp only [mapBays]
@[simp] theorem mapBays_hold (f : Fin 32 → Bay → Bay) (s : State) : (mapBays f s).hold = s.hold := by dsimp only [mapBays]
@[simp] theorem mapBays_grantFrame (f : Fin 32 → Bay → Bay) (s : State) : (mapBays f s).grantFrame = s.grantFrame := by dsimp only [mapBays]
@[simp] theorem mapBays_allstopFrame (f : Fin 32 → Bay → Bay) (s : State) : (mapBays f s).allstopFrame = s.allstopFrame := by dsimp only [mapBays]
@[simp] theorem mapBays_curt (f : Fin 32 → Bay → Bay) (s : State) : (mapBays f s).curt = s.curt := by dsimp only [mapBays]
@[simp] theorem mapBays_lineState (f : Fin 32 → Bay → Bay) (s : State) : (mapBays f s).lineState = s.lineState := by dsimp only [mapBays]
@[simp] theorem mapBays_softCurtail (f : Fin 32 → Bay → Bay) (s : State) : (mapBays f s).softCurtail = s.softCurtail := by dsimp only [mapBays]
@[simp] theorem mapBays_clock (f : Fin 32 → Bay → Bay) (s : State) : (mapBays f s).clock = s.clock := by dsimp only [mapBays]
@[simp] theorem mapBays_phase (f : Fin 32 → Bay → Bay) (s : State) : (mapBays f s).phase = s.phase := by dsimp only [mapBays]
@[simp] theorem mapBays_tuning (f : Fin 32 → Bay → Bay) (s : State) : (mapBays f s).tuning = s.tuning := by dsimp only [mapBays]
@[simp] theorem mapBays_flags (f : Fin 32 → Bay → Bay) (s : State) : (mapBays f s).flags = s.flags := by dsimp only [mapBays]
@[simp] theorem mapBays_mask (f : Fin 32 → Bay → Bay) (s : State) : (mapBays f s).mask = s.mask := by dsimp only [mapBays]
@[simp] theorem mapBays_freeIndex (f : Fin 32 → Bay → Bay) (s : State) : (mapBays f s).freeIndex = s.freeIndex := by dsimp only [mapBays]

/-! ### mapSlots -/

@[simp] theorem mapSlots_pending (f : Fin 48 → Slot → Slot) (s : State) : (mapSlots f s).pending = s.pending := by dsimp only [mapSlots]
@[simp] theorem mapSlots_response (f : Fin 48 → Slot → Slot) (s : State) : (mapSlots f s).response = s.response := by dsimp only [mapSlots]
@[simp] theorem mapSlots_rx (f : Fin 48 → Slot → Slot) (s : State) : (mapSlots f s).rx = s.rx := by dsimp only [mapSlots]
@[simp] theorem mapSlots_pins (f : Fin 48 → Slot → Slot) (s : State) : (mapSlots f s).pins = s.pins := by dsimp only [mapSlots]
@[simp] theorem mapSlots_queues (f : Fin 48 → Slot → Slot) (s : State) : (mapSlots f s).queues = s.queues := by dsimp only [mapSlots]
@[simp] theorem mapSlots_profiles (f : Fin 48 → Slot → Slot) (s : State) : (mapSlots f s).profiles = s.profiles := by dsimp only [mapSlots]
@[simp] theorem mapSlots_periodTimer (f : Fin 48 → Slot → Slot) (s : State) : (mapSlots f s).periodTimer = s.periodTimer := by dsimp only [mapSlots]
@[simp] theorem mapSlots_pass (f : Fin 48 → Slot → Slot) (s : State) : (mapSlots f s).pass = s.pass := by dsimp only [mapSlots]
@[simp] theorem mapSlots_passMark (f : Fin 48 → Slot → Slot) (s : State) : (mapSlots f s).passMark = s.passMark := by dsimp only [mapSlots]
@[simp] theorem mapSlots_ceiling (f : Fin 48 → Slot → Slot) (s : State) : (mapSlots f s).ceiling = s.ceiling := by dsimp only [mapSlots]
@[simp] theorem mapSlots_workingCap (f : Fin 48 → Slot → Slot) (s : State) : (mapSlots f s).workingCap = s.workingCap := by dsimp only [mapSlots]
@[simp] theorem mapSlots_curtailCap (f : Fin 48 → Slot → Slot) (s : State) : (mapSlots f s).curtailCap = s.curtailCap := by dsimp only [mapSlots]
@[simp] theorem mapSlots_fallbackCap (f : Fin 48 → Slot → Slot) (s : State) : (mapSlots f s).fallbackCap = s.fallbackCap := by dsimp only [mapSlots]
@[simp] theorem mapSlots_windows (f : Fin 48 → Slot → Slot) (s : State) : (mapSlots f s).windows = s.windows := by dsimp only [mapSlots]
@[simp] theorem mapSlots_load (f : Fin 48 → Slot → Slot) (s : State) : (mapSlots f s).load = s.load := by dsimp only [mapSlots]
@[simp] theorem mapSlots_bays (f : Fin 48 → Slot → Slot) (s : State) : (mapSlots f s).bays = s.bays := by dsimp only [mapSlots]
@[simp] theorem mapSlots_cycleTimer (f : Fin 48 → Slot → Slot) (s : State) : (mapSlots f s).cycleTimer = s.cycleTimer := by dsimp only [mapSlots]
@[simp] theorem mapSlots_cycle (f : Fin 48 → Slot → Slot) (s : State) : (mapSlots f s).cycle = s.cycle := by dsimp only [mapSlots]
@[simp] theorem mapSlots_deferred (f : Fin 48 → Slot → Slot) (s : State) : (mapSlots f s).deferred = s.deferred := by dsimp only [mapSlots]
@[simp] theorem mapSlots_exchange (f : Fin 48 → Slot → Slot) (s : State) : (mapSlots f s).exchange = s.exchange := by dsimp only [mapSlots]
@[simp] theorem mapSlots_allstop (f : Fin 48 → Slot → Slot) (s : State) : (mapSlots f s).allstop = s.allstop := by dsimp only [mapSlots]
@[simp] theorem mapSlots_sending (f : Fin 48 → Slot → Slot) (s : State) : (mapSlots f s).sending = s.sending := by dsimp only [mapSlots]
@[simp] theorem mapSlots_hold (f : Fin 48 → Slot → Slot) (s : State) : (mapSlots f s).hold = s.hold := by dsimp only [mapSlots]
@[simp] theorem mapSlots_grantFrame (f : Fin 48 → Slot → Slot) (s : State) : (mapSlots f s).grantFrame = s.grantFrame := by dsimp only [mapSlots]
@[simp] theorem mapSlots_allstopFrame (f : Fin 48 → Slot → Slot) (s : State) : (mapSlots f s).allstopFrame = s.allstopFrame := by dsimp only [mapSlots]
@[simp] theorem mapSlots_curt (f : Fin 48 → Slot → Slot) (s : State) : (mapSlots f s).curt = s.curt := by dsimp only [mapSlots]
@[simp] theorem mapSlots_lineState (f : Fin 48 → Slot → Slot) (s : State) : (mapSlots f s).lineState = s.lineState := by dsimp only [mapSlots]
@[simp] theorem mapSlots_softCurtail (f : Fin 48 → Slot → Slot) (s : State) : (mapSlots f s).softCurtail = s.softCurtail := by dsimp only [mapSlots]
@[simp] theorem mapSlots_clock (f : Fin 48 → Slot → Slot) (s : State) : (mapSlots f s).clock = s.clock := by dsimp only [mapSlots]
@[simp] theorem mapSlots_phase (f : Fin 48 → Slot → Slot) (s : State) : (mapSlots f s).phase = s.phase := by dsimp only [mapSlots]
@[simp] theorem mapSlots_tuning (f : Fin 48 → Slot → Slot) (s : State) : (mapSlots f s).tuning = s.tuning := by dsimp only [mapSlots]
@[simp] theorem mapSlots_flags (f : Fin 48 → Slot → Slot) (s : State) : (mapSlots f s).flags = s.flags := by dsimp only [mapSlots]
@[simp] theorem mapSlots_mask (f : Fin 48 → Slot → Slot) (s : State) : (mapSlots f s).mask = s.mask := by dsimp only [mapSlots]
@[simp] theorem mapSlots_freeIndex (f : Fin 48 → Slot → Slot) (s : State) : (mapSlots f s).freeIndex = s.freeIndex := by dsimp only [mapSlots]

/-! ### putOrder -/

@[simp] theorem putOrder_pending (s : State) (i : Fin 48) (o : Order) : (putOrder s i o).pending = s.pending := rfl
@[simp] theorem putOrder_response (s : State) (i : Fin 48) (o : Order) : (putOrder s i o).response = s.response := rfl
@[simp] theorem putOrder_rx (s : State) (i : Fin 48) (o : Order) : (putOrder s i o).rx = s.rx := rfl
@[simp] theorem putOrder_pins (s : State) (i : Fin 48) (o : Order) : (putOrder s i o).pins = s.pins := rfl
@[simp] theorem putOrder_queues (s : State) (i : Fin 48) (o : Order) : (putOrder s i o).queues = s.queues := rfl
@[simp] theorem putOrder_profiles (s : State) (i : Fin 48) (o : Order) : (putOrder s i o).profiles = s.profiles := rfl
@[simp] theorem putOrder_periodTimer (s : State) (i : Fin 48) (o : Order) : (putOrder s i o).periodTimer = s.periodTimer := rfl
@[simp] theorem putOrder_pass (s : State) (i : Fin 48) (o : Order) : (putOrder s i o).pass = s.pass := rfl
@[simp] theorem putOrder_passMark (s : State) (i : Fin 48) (o : Order) : (putOrder s i o).passMark = s.passMark := rfl
@[simp] theorem putOrder_ceiling (s : State) (i : Fin 48) (o : Order) : (putOrder s i o).ceiling = s.ceiling := rfl
@[simp] theorem putOrder_workingCap (s : State) (i : Fin 48) (o : Order) : (putOrder s i o).workingCap = s.workingCap := rfl
@[simp] theorem putOrder_curtailCap (s : State) (i : Fin 48) (o : Order) : (putOrder s i o).curtailCap = s.curtailCap := rfl
@[simp] theorem putOrder_fallbackCap (s : State) (i : Fin 48) (o : Order) : (putOrder s i o).fallbackCap = s.fallbackCap := rfl
@[simp] theorem putOrder_windows (s : State) (i : Fin 48) (o : Order) : (putOrder s i o).windows = s.windows := rfl
@[simp] theorem putOrder_load (s : State) (i : Fin 48) (o : Order) : (putOrder s i o).load = s.load := rfl
@[simp] theorem putOrder_bays (s : State) (i : Fin 48) (o : Order) : (putOrder s i o).bays = s.bays := rfl
@[simp] theorem putOrder_cycleTimer (s : State) (i : Fin 48) (o : Order) : (putOrder s i o).cycleTimer = s.cycleTimer := rfl
@[simp] theorem putOrder_cycle (s : State) (i : Fin 48) (o : Order) : (putOrder s i o).cycle = s.cycle := rfl
@[simp] theorem putOrder_deferred (s : State) (i : Fin 48) (o : Order) : (putOrder s i o).deferred = s.deferred := rfl
@[simp] theorem putOrder_exchange (s : State) (i : Fin 48) (o : Order) : (putOrder s i o).exchange = s.exchange := rfl
@[simp] theorem putOrder_allstop (s : State) (i : Fin 48) (o : Order) : (putOrder s i o).allstop = s.allstop := rfl
@[simp] theorem putOrder_sending (s : State) (i : Fin 48) (o : Order) : (putOrder s i o).sending = s.sending := rfl
@[simp] theorem putOrder_hold (s : State) (i : Fin 48) (o : Order) : (putOrder s i o).hold = s.hold := rfl
@[simp] theorem putOrder_grantFrame (s : State) (i : Fin 48) (o : Order) : (putOrder s i o).grantFrame = s.grantFrame := rfl
@[simp] theorem putOrder_allstopFrame (s : State) (i : Fin 48) (o : Order) : (putOrder s i o).allstopFrame = s.allstopFrame := rfl
@[simp] theorem putOrder_curt (s : State) (i : Fin 48) (o : Order) : (putOrder s i o).curt = s.curt := rfl
@[simp] theorem putOrder_lineState (s : State) (i : Fin 48) (o : Order) : (putOrder s i o).lineState = s.lineState := rfl
@[simp] theorem putOrder_softCurtail (s : State) (i : Fin 48) (o : Order) : (putOrder s i o).softCurtail = s.softCurtail := rfl
@[simp] theorem putOrder_clock (s : State) (i : Fin 48) (o : Order) : (putOrder s i o).clock = s.clock := rfl
@[simp] theorem putOrder_phase (s : State) (i : Fin 48) (o : Order) : (putOrder s i o).phase = s.phase := rfl
@[simp] theorem putOrder_tuning (s : State) (i : Fin 48) (o : Order) : (putOrder s i o).tuning = s.tuning := rfl
@[simp] theorem putOrder_flags (s : State) (i : Fin 48) (o : Order) : (putOrder s i o).flags = s.flags := rfl
@[simp] theorem putOrder_mask (s : State) (i : Fin 48) (o : Order) : (putOrder s i o).mask = s.mask := rfl
@[simp] theorem putOrder_freeIndex (s : State) (i : Fin 48) (o : Order) : (putOrder s i o).freeIndex = s.freeIndex := rfl

/-! ### writePending -/

@[simp] theorem writePending_pending (s : State) (b : Fin 32) (m : Mode) (n : Nat) : (writePending s b m n).pending = s.pending := rfl
@[simp] theorem writePending_response (s : State) (b : Fin 32) (m : Mode) (n : Nat) : (writePending s b m n).response = s.response := rfl
@[simp] theorem writePending_rx (s : State) (b : Fin 32) (m : Mode) (n : Nat) : (writePending s b m n).rx = s.rx := rfl
@[simp] theorem writePending_pins (s : State) (b : Fin 32) (m : Mode) (n : Nat) : (writePending s b m n).pins = s.pins := rfl
@[simp] theorem writePending_slots (s : State) (b : Fin 32) (m : Mode) (n : Nat) : (writePending s b m n).slots = s.slots := rfl
@[simp] theorem writePending_queues (s : State) (b : Fin 32) (m : Mode) (n : Nat) : (writePending s b m n).queues = s.queues := rfl
@[simp] theorem writePending_profiles (s : State) (b : Fin 32) (m : Mode) (n : Nat) : (writePending s b m n).profiles = s.profiles := rfl
@[simp] theorem writePending_periodTimer (s : State) (b : Fin 32) (m : Mode) (n : Nat) : (writePending s b m n).periodTimer = s.periodTimer := rfl
@[simp] theorem writePending_pass (s : State) (b : Fin 32) (m : Mode) (n : Nat) : (writePending s b m n).pass = s.pass := rfl
@[simp] theorem writePending_passMark (s : State) (b : Fin 32) (m : Mode) (n : Nat) : (writePending s b m n).passMark = s.passMark := rfl
@[simp] theorem writePending_ceiling (s : State) (b : Fin 32) (m : Mode) (n : Nat) : (writePending s b m n).ceiling = s.ceiling := rfl
@[simp] theorem writePending_workingCap (s : State) (b : Fin 32) (m : Mode) (n : Nat) : (writePending s b m n).workingCap = s.workingCap := rfl
@[simp] theorem writePending_curtailCap (s : State) (b : Fin 32) (m : Mode) (n : Nat) : (writePending s b m n).curtailCap = s.curtailCap := rfl
@[simp] theorem writePending_fallbackCap (s : State) (b : Fin 32) (m : Mode) (n : Nat) : (writePending s b m n).fallbackCap = s.fallbackCap := rfl
@[simp] theorem writePending_windows (s : State) (b : Fin 32) (m : Mode) (n : Nat) : (writePending s b m n).windows = s.windows := rfl
@[simp] theorem writePending_load (s : State) (b : Fin 32) (m : Mode) (n : Nat) : (writePending s b m n).load = s.load := rfl
@[simp] theorem writePending_cycleTimer (s : State) (b : Fin 32) (m : Mode) (n : Nat) : (writePending s b m n).cycleTimer = s.cycleTimer := rfl
@[simp] theorem writePending_cycle (s : State) (b : Fin 32) (m : Mode) (n : Nat) : (writePending s b m n).cycle = s.cycle := rfl
@[simp] theorem writePending_deferred (s : State) (b : Fin 32) (m : Mode) (n : Nat) : (writePending s b m n).deferred = s.deferred := rfl
@[simp] theorem writePending_exchange (s : State) (b : Fin 32) (m : Mode) (n : Nat) : (writePending s b m n).exchange = s.exchange := rfl
@[simp] theorem writePending_allstop (s : State) (b : Fin 32) (m : Mode) (n : Nat) : (writePending s b m n).allstop = s.allstop := rfl
@[simp] theorem writePending_sending (s : State) (b : Fin 32) (m : Mode) (n : Nat) : (writePending s b m n).sending = s.sending := rfl
@[simp] theorem writePending_hold (s : State) (b : Fin 32) (m : Mode) (n : Nat) : (writePending s b m n).hold = s.hold := rfl
@[simp] theorem writePending_grantFrame (s : State) (b : Fin 32) (m : Mode) (n : Nat) : (writePending s b m n).grantFrame = s.grantFrame := rfl
@[simp] theorem writePending_allstopFrame (s : State) (b : Fin 32) (m : Mode) (n : Nat) : (writePending s b m n).allstopFrame = s.allstopFrame := rfl
@[simp] theorem writePending_curt (s : State) (b : Fin 32) (m : Mode) (n : Nat) : (writePending s b m n).curt = s.curt := rfl
@[simp] theorem writePending_lineState (s : State) (b : Fin 32) (m : Mode) (n : Nat) : (writePending s b m n).lineState = s.lineState := rfl
@[simp] theorem writePending_softCurtail (s : State) (b : Fin 32) (m : Mode) (n : Nat) : (writePending s b m n).softCurtail = s.softCurtail := rfl
@[simp] theorem writePending_clock (s : State) (b : Fin 32) (m : Mode) (n : Nat) : (writePending s b m n).clock = s.clock := rfl
@[simp] theorem writePending_phase (s : State) (b : Fin 32) (m : Mode) (n : Nat) : (writePending s b m n).phase = s.phase := rfl
@[simp] theorem writePending_tuning (s : State) (b : Fin 32) (m : Mode) (n : Nat) : (writePending s b m n).tuning = s.tuning := rfl
@[simp] theorem writePending_flags (s : State) (b : Fin 32) (m : Mode) (n : Nat) : (writePending s b m n).flags = s.flags := rfl
@[simp] theorem writePending_mask (s : State) (b : Fin 32) (m : Mode) (n : Nat) : (writePending s b m n).mask = s.mask := rfl
@[simp] theorem writePending_freeIndex (s : State) (b : Fin 32) (m : Mode) (n : Nat) : (writePending s b m n).freeIndex = s.freeIndex := rfl

/-! ### zeroPending -/

@[simp] theorem zeroPending_pending (s : State) (b : Fin 32) : (zeroPending s b).pending = s.pending := rfl
@[simp] theorem zeroPending_response (s : State) (b : Fin 32) : (zeroPending s b).response = s.response := rfl
@[simp] theorem zeroPending_rx (s : State) (b : Fin 32) : (zeroPending s b).rx = s.rx := rfl
@[simp] theorem zeroPending_pins (s : State) (b : Fin 32) : (zeroPending s b).pins = s.pins := rfl
@[simp] theorem zeroPending_slots (s : State) (b : Fin 32) : (zeroPending s b).slots = s.slots := rfl
@[simp] theorem zeroPending_queues (s : State) (b : Fin 32) : (zeroPending s b).queues = s.queues := rfl
@[simp] theorem zeroPending_profiles (s : State) (b : Fin 32) : (zeroPending s b).profiles = s.profiles := rfl
@[simp] theorem zeroPending_periodTimer (s : State) (b : Fin 32) : (zeroPending s b).periodTimer = s.periodTimer := rfl
@[simp] theorem zeroPending_pass (s : State) (b : Fin 32) : (zeroPending s b).pass = s.pass := rfl
@[simp] theorem zeroPending_passMark (s : State) (b : Fin 32) : (zeroPending s b).passMark = s.passMark := rfl
@[simp] theorem zeroPending_ceiling (s : State) (b : Fin 32) : (zeroPending s b).ceiling = s.ceiling := rfl
@[simp] theorem zeroPending_workingCap (s : State) (b : Fin 32) : (zeroPending s b).workingCap = s.workingCap := rfl
@[simp] theorem zeroPending_curtailCap (s : State) (b : Fin 32) : (zeroPending s b).curtailCap = s.curtailCap := rfl
@[simp] theorem zeroPending_fallbackCap (s : State) (b : Fin 32) : (zeroPending s b).fallbackCap = s.fallbackCap := rfl
@[simp] theorem zeroPending_windows (s : State) (b : Fin 32) : (zeroPending s b).windows = s.windows := rfl
@[simp] theorem zeroPending_load (s : State) (b : Fin 32) : (zeroPending s b).load = s.load := rfl
@[simp] theorem zeroPending_cycleTimer (s : State) (b : Fin 32) : (zeroPending s b).cycleTimer = s.cycleTimer := rfl
@[simp] theorem zeroPending_cycle (s : State) (b : Fin 32) : (zeroPending s b).cycle = s.cycle := rfl
@[simp] theorem zeroPending_deferred (s : State) (b : Fin 32) : (zeroPending s b).deferred = s.deferred := rfl
@[simp] theorem zeroPending_exchange (s : State) (b : Fin 32) : (zeroPending s b).exchange = s.exchange := rfl
@[simp] theorem zeroPending_allstop (s : State) (b : Fin 32) : (zeroPending s b).allstop = s.allstop := rfl
@[simp] theorem zeroPending_sending (s : State) (b : Fin 32) : (zeroPending s b).sending = s.sending := rfl
@[simp] theorem zeroPending_hold (s : State) (b : Fin 32) : (zeroPending s b).hold = s.hold := rfl
@[simp] theorem zeroPending_grantFrame (s : State) (b : Fin 32) : (zeroPending s b).grantFrame = s.grantFrame := rfl
@[simp] theorem zeroPending_allstopFrame (s : State) (b : Fin 32) : (zeroPending s b).allstopFrame = s.allstopFrame := rfl
@[simp] theorem zeroPending_curt (s : State) (b : Fin 32) : (zeroPending s b).curt = s.curt := rfl
@[simp] theorem zeroPending_lineState (s : State) (b : Fin 32) : (zeroPending s b).lineState = s.lineState := rfl
@[simp] theorem zeroPending_softCurtail (s : State) (b : Fin 32) : (zeroPending s b).softCurtail = s.softCurtail := rfl
@[simp] theorem zeroPending_clock (s : State) (b : Fin 32) : (zeroPending s b).clock = s.clock := rfl
@[simp] theorem zeroPending_phase (s : State) (b : Fin 32) : (zeroPending s b).phase = s.phase := rfl
@[simp] theorem zeroPending_tuning (s : State) (b : Fin 32) : (zeroPending s b).tuning = s.tuning := rfl
@[simp] theorem zeroPending_flags (s : State) (b : Fin 32) : (zeroPending s b).flags = s.flags := rfl
@[simp] theorem zeroPending_mask (s : State) (b : Fin 32) : (zeroPending s b).mask = s.mask := rfl
@[simp] theorem zeroPending_freeIndex (s : State) (b : Fin 32) : (zeroPending s b).freeIndex = s.freeIndex := rfl

/-! ### placeFirst -/

@[simp] theorem placeFirst_pending (s : State) (p : Profile) : (placeFirst s p).pending = s.pending := rfl
@[simp] theorem placeFirst_response (s : State) (p : Profile) : (placeFirst s p).response = s.response := rfl
@[simp] theorem placeFirst_rx (s : State) (p : Profile) : (placeFirst s p).rx = s.rx := rfl
@[simp] theorem placeFirst_pins (s : State) (p : Profile) : (placeFirst s p).pins = s.pins := rfl
@[simp] theorem placeFirst_slots (s : State) (p : Profile) : (placeFirst s p).slots = s.slots := rfl
@[simp] theorem placeFirst_queues (s : State) (p : Profile) : (placeFirst s p).queues = s.queues := rfl
@[simp] theorem placeFirst_periodTimer (s : State) (p : Profile) : (placeFirst s p).periodTimer = s.periodTimer := rfl
@[simp] theorem placeFirst_pass (s : State) (p : Profile) : (placeFirst s p).pass = s.pass := rfl
@[simp] theorem placeFirst_passMark (s : State) (p : Profile) : (placeFirst s p).passMark = s.passMark := rfl
@[simp] theorem placeFirst_ceiling (s : State) (p : Profile) : (placeFirst s p).ceiling = s.ceiling := rfl
@[simp] theorem placeFirst_workingCap (s : State) (p : Profile) : (placeFirst s p).workingCap = s.workingCap := rfl
@[simp] theorem placeFirst_curtailCap (s : State) (p : Profile) : (placeFirst s p).curtailCap = s.curtailCap := rfl
@[simp] theorem placeFirst_fallbackCap (s : State) (p : Profile) : (placeFirst s p).fallbackCap = s.fallbackCap := rfl
@[simp] theorem placeFirst_windows (s : State) (p : Profile) : (placeFirst s p).windows = s.windows := rfl
@[simp] theorem placeFirst_load (s : State) (p : Profile) : (placeFirst s p).load = s.load := rfl
@[simp] theorem placeFirst_bays (s : State) (p : Profile) : (placeFirst s p).bays = s.bays := rfl
@[simp] theorem placeFirst_cycleTimer (s : State) (p : Profile) : (placeFirst s p).cycleTimer = s.cycleTimer := rfl
@[simp] theorem placeFirst_cycle (s : State) (p : Profile) : (placeFirst s p).cycle = s.cycle := rfl
@[simp] theorem placeFirst_deferred (s : State) (p : Profile) : (placeFirst s p).deferred = s.deferred := rfl
@[simp] theorem placeFirst_exchange (s : State) (p : Profile) : (placeFirst s p).exchange = s.exchange := rfl
@[simp] theorem placeFirst_allstop (s : State) (p : Profile) : (placeFirst s p).allstop = s.allstop := rfl
@[simp] theorem placeFirst_sending (s : State) (p : Profile) : (placeFirst s p).sending = s.sending := rfl
@[simp] theorem placeFirst_hold (s : State) (p : Profile) : (placeFirst s p).hold = s.hold := rfl
@[simp] theorem placeFirst_grantFrame (s : State) (p : Profile) : (placeFirst s p).grantFrame = s.grantFrame := rfl
@[simp] theorem placeFirst_allstopFrame (s : State) (p : Profile) : (placeFirst s p).allstopFrame = s.allstopFrame := rfl
@[simp] theorem placeFirst_curt (s : State) (p : Profile) : (placeFirst s p).curt = s.curt := rfl
@[simp] theorem placeFirst_lineState (s : State) (p : Profile) : (placeFirst s p).lineState = s.lineState := rfl
@[simp] theorem placeFirst_softCurtail (s : State) (p : Profile) : (placeFirst s p).softCurtail = s.softCurtail := rfl
@[simp] theorem placeFirst_clock (s : State) (p : Profile) : (placeFirst s p).clock = s.clock := rfl
@[simp] theorem placeFirst_phase (s : State) (p : Profile) : (placeFirst s p).phase = s.phase := rfl
@[simp] theorem placeFirst_tuning (s : State) (p : Profile) : (placeFirst s p).tuning = s.tuning := rfl
@[simp] theorem placeFirst_flags (s : State) (p : Profile) : (placeFirst s p).flags = s.flags := rfl
@[simp] theorem placeFirst_mask (s : State) (p : Profile) : (placeFirst s p).mask = s.mask := rfl
@[simp] theorem placeFirst_freeIndex (s : State) (p : Profile) : (placeFirst s p).freeIndex = s.freeIndex := rfl

/-! ### Reading what was written -/

@[simp] theorem bayAt_setBay_self (s : State) (b : Fin 32) (x : Bay) : bayAt (setBay s b x) b = x := by
  simp [bayAt, setBay]

theorem bayAt_setBay_ne (s : State) {a b : Fin 32} (x : Bay) (h : a ≠ b) : bayAt (setBay s b x) a = bayAt s a := by
  have : (b : Nat) ≠ a := fun e => h (Fin.ext e.symm)
  simp [bayAt, setBay, this]

theorem bayAt_setBay (s : State) (a b : Fin 32) (x : Bay) :
    bayAt (setBay s b x) a = if a = b then x else bayAt s a := by
  split
  · subst_vars; simp
  · exact bayAt_setBay_ne s x ‹_›

@[simp] theorem bayAt_mapBays (f : Fin 32 → Bay → Bay) (s : State) (b : Fin 32) :
    bayAt (mapBays f s) b = f b (bayAt s b) := by
  simp [bayAt, mapBays]

@[simp] theorem slotAt_setSlot_self (s : State) (i : Fin 48) (x : Slot) : slotAt (setSlot s i x) i = x := by
  simp [slotAt, setSlot]

theorem slotAt_setSlot_ne (s : State) {i j : Fin 48} (x : Slot) (h : j ≠ i) : slotAt (setSlot s i x) j = slotAt s j := by
  have : (i : Nat) ≠ j := fun e => h (Fin.ext e.symm)
  simp [slotAt, setSlot, this]

theorem slotAt_setSlot (s : State) (i j : Fin 48) (x : Slot) :
    slotAt (setSlot s i x) j = if j = i then x else slotAt s j := by
  split
  · subst_vars; simp
  · exact slotAt_setSlot_ne s x ‹_›

@[simp] theorem slotAt_mapSlots (f : Fin 48 → Slot → Slot) (s : State) (i : Fin 48) :
    slotAt (mapSlots f s) i = f i (slotAt s i) := by
  simp [slotAt, mapSlots]

theorem orderAt_setSlot (s : State) (i j : Fin 48) (x : Slot) :
    orderAt (setSlot s i x) j = if j = i then x.order else orderAt s j := by
  unfold orderAt
  rw [slotAt_setSlot]
  split <;> rfl

theorem orderAt_putOrder (s : State) (i j : Fin 48) (o : Order) :
    orderAt (putOrder s i o) j = if j = i then some o else orderAt s j := by
  simp [putOrder, orderAt_setSlot]

@[simp] theorem orderAt_putOrder_self (s : State) (i : Fin 48) (o : Order) : orderAt (putOrder s i o) i = some o := by
  simp [orderAt_putOrder]

@[simp] theorem slotAt_putOrder_gen (s : State) (i j : Fin 48) (o : Order) :
    (slotAt (putOrder s i o) j).gen = (slotAt s j).gen := by
  unfold putOrder
  rw [slotAt_setSlot]
  split
  · subst_vars; rfl
  · rfl

@[simp] theorem queueAt_setQueue_self (s : State) (b : Fin 32) (q : List (Fin 48)) : queueAt (setQueue s b q) b = q := by
  simp [queueAt, setQueue]

theorem queueAt_setQueue_ne (s : State) {a b : Fin 32} (q : List (Fin 48)) (h : a ≠ b) :
    queueAt (setQueue s b q) a = queueAt s a := by
  have : (b : Nat) ≠ a := fun e => h (Fin.ext e.symm)
  simp [queueAt, setQueue, this]

theorem queueAt_setQueue (s : State) (a b : Fin 32) (q : List (Fin 48)) :
    queueAt (setQueue s b q) a = if a = b then q else queueAt s a := by
  split
  · subst_vars; simp
  · exact queueAt_setQueue_ne s q ‹_›

theorem bayAt_writePending (s : State) (a b : Fin 32) (m : Mode) (n : Nat) :
    bayAt (writePending s b m n) a = if a = b then (bayAt s b).offer m n else bayAt s a := by
  simp [writePending, bayAt_setBay]

/-! ### Reads that an update of another field leaves -/

@[simp] theorem bayAt_setSlot (s : State) (i : Fin 48) (x : Slot) (b : Fin 32) : bayAt (setSlot s i x) b = bayAt s b := rfl
@[simp] theorem bayAt_setQueue (s : State) (a : Fin 32) (q : List (Fin 48)) (b : Fin 32) :
    bayAt (setQueue s a q) b = bayAt s b := rfl
@[simp] theorem bayAt_putOrder (s : State) (i : Fin 48) (o : Order) (b : Fin 32) :
    bayAt (putOrder s i o) b = bayAt s b := rfl
@[simp] theorem bayAt_raise (f : EventFlag) (s : State) (b : Fin 32) : bayAt (raise f s) b = bayAt s b := rfl
@[simp] theorem bayAt_answer (c : RespCode) (p : List Byte) (s : State) (b : Fin 32) :
    bayAt (answer c p s) b = bayAt s b := rfl
@[simp] theorem slotAt_setBay (s : State) (b : Fin 32) (x : Bay) (i : Fin 48) : slotAt (setBay s b x) i = slotAt s i := rfl
@[simp] theorem slotAt_setQueue (s : State) (a : Fin 32) (q : List (Fin 48)) (i : Fin 48) :
    slotAt (setQueue s a q) i = slotAt s i := rfl
@[simp] theorem slotAt_writePending (s : State) (b : Fin 32) (m : Mode) (n : Nat) (i : Fin 48) :
    slotAt (writePending s b m n) i = slotAt s i := rfl
@[simp] theorem slotAt_zeroPending (s : State) (b : Fin 32) (i : Fin 48) : slotAt (zeroPending s b) i = slotAt s i := rfl
@[simp] theorem slotAt_raise (f : EventFlag) (s : State) (i : Fin 48) : slotAt (raise f s) i = slotAt s i := rfl
@[simp] theorem slotAt_answer (c : RespCode) (p : List Byte) (s : State) (i : Fin 48) :
    slotAt (answer c p s) i = slotAt s i := rfl
@[simp] theorem queueAt_setBay (s : State) (b : Fin 32) (x : Bay) (a : Fin 32) : queueAt (setBay s b x) a = queueAt s a := rfl
@[simp] theorem queueAt_setSlot (s : State) (i : Fin 48) (x : Slot) (a : Fin 32) :
    queueAt (setSlot s i x) a = queueAt s a := rfl
@[simp] theorem queueAt_putOrder (s : State) (i : Fin 48) (o : Order) (a : Fin 32) :
    queueAt (putOrder s i o) a = queueAt s a := rfl
@[simp] theorem queueAt_writePending (s : State) (b : Fin 32) (m : Mode) (n : Nat) (a : Fin 32) :
    queueAt (writePending s b m n) a = queueAt s a := rfl
@[simp] theorem queueAt_zeroPending (s : State) (b a : Fin 32) : queueAt (zeroPending s b) a = queueAt s a := rfl
@[simp] theorem queueAt_raise (f : EventFlag) (s : State) (a : Fin 32) : queueAt (raise f s) a = queueAt s a := rfl
@[simp] theorem queueAt_answer (c : RespCode) (p : List Byte) (s : State) (a : Fin 32) :
    queueAt (answer c p s) a = queueAt s a := rfl

end Sys2Proof.Machine
end

