-- ==== Sys2Proof/Laws/Ops.lean ====
section
/-! SUPPORT. What each shared operation can do, said once: which fields it may write (`…_writes`, the form in which one
frame is chained to the next), and what it answers (`…_iff`, `…_spec`). -/

namespace Sys2Proof.Machine

open Sys2Proof.Safety

/-! ### Resolving, heads, the table of live orders -/

theorem slotOfByte_iff (b : Byte) (i : Fin 48) : slotOfByte b = some i ↔ b.toNat = i.val := by
  unfold slotOfByte
  split
  · simp [Fin.ext_iff]
  · simp only [reduceCtorEq, false_iff]; omega

theorem bayOfByte_iff (b : Byte) (i : Fin 32) : bayOfByte b = some i ↔ b.toNat = i.val := by
  unfold bayOfByte
  split
  · simp [Fin.ext_iff]
  · simp only [reduceCtorEq, false_iff]; omega

theorem feederOfByte_iff (b : Byte) (i : Fin 4) : feederOfByte b = some i ↔ b.toNat = i.val := by
  unfold feederOfByte
  split
  · simp [Fin.ext_iff]
  · simp only [reduceCtorEq, false_iff]; omega

theorem bayOfByte_none (b : Byte) : bayOfByte b = none ↔ 31 < b.toNat := by
  unfold bayOfByte; split <;> simp only [reduceCtorEq, false_iff, true_iff] <;> omega

theorem slotOfByte_none (b : Byte) : slotOfByte b = none ↔ 47 < b.toNat := by
  unfold slotOfByte; split <;> simp only [reduceCtorEq, false_iff, true_iff] <;> omega

theorem feederOfByte_none (b : Byte) : feederOfByte b = none ↔ 3 < b.toNat := by
  unfold feederOfByte; split <;> simp only [reduceCtorEq, false_iff, true_iff] <;> omega

/-- Resolving a handle is naming an order (R5). -/
theorem resolve_iff (s : State) (h : WireHandle) (i : Fin 48) (o : Order) : resolve s h = some (i, o) ↔ Names s h i o := by
  unfold resolve Names
  cases hs : slotOfByte h.slot with
  | none =>
    rw [slotOfByte_none] at hs
    simp only [reduceCtorEq, false_iff]; omega
  | some j =>
    rw [slotOfByte_iff] at hs
    simp only
    constructor
    · intro e
      split at e
      · rename_i hg
        cases ho : orderAt s j with
        | none => simp [ho] at e
        | some q => simp [ho] at e; obtain ⟨rfl, rfl⟩ := e; exact ⟨hs, hg.symm, ho⟩
      · simp at e
    · rintro ⟨h1, h2, h3⟩
      have : j = i := by ext; omega
      subst this
      simp [h2, h3]

theorem resolve_none (s : State) (h : WireHandle) : resolve s h = none ↔ ¬∃ i o, Names s h i o := by
  constructor
  · rintro e ⟨i, o, n⟩; rw [(resolve_iff s h i o).2 n] at e; cases e
  · intro n
    cases e : resolve s h with
    | none => rfl
    | some x => exact absurd ⟨x.1, x.2, (resolve_iff s h x.1 x.2).1 e⟩ n

theorem headOrder_iff (s : State) (b : Fin 32) (i : Fin 48) (o : Order) :
    headOrder s b = some (i, o) ↔ HeadOf s b i ∧ orderAt s i = some o := by
  unfold headOrder HeadOf headSlot
  cases (queueAt s b).head? with
  | none => simp
  | some j =>
    simp only [Option.map_eq_some_iff, Prod.mk.injEq, Option.some.injEq]
    constructor
    · rintro ⟨q, hq, rfl, rfl⟩; exact ⟨rfl, hq⟩
    · rintro ⟨rfl, h⟩; exact ⟨o, h, rfl, rfl⟩

/-- In a sound table the head of a bay holds a live order of that bay, so a bay has no head order only if its queue is
empty. -/
theorem QueuesSound.head_order {s : State} (h : QueuesSound s) {b : Fin 32} {i : Fin 48} (hi : HeadOf s b i) :
    ∃ o, orderAt s i = some o ∧ o.bay = b ∧ o.live = true := by
  have mem : i ∈ s.queues[b] := List.mem_of_head? hi
  exact ((h b).2.1 i).1 mem

theorem live_iff (o : Order) : o.live = true ↔ o.state ≠ .closed := by simp [Order.live]

theorem fixed_iff (o : Order) : o.fixed = true ↔ o.started = true ∨ o.state = .tripped := by simp [Order.fixed]

theorem running_iff (o : Order) : o.running = true ↔ o.state = .active ∨ o.state = .holding := by simp [Order.running]

/-! ### Queues by departure (R7) -/

theorem mem_insertByDeparture (dep : Fin 48 → Nat) (i j : Fin 48) (q : List (Fin 48)) :
    j ∈ insertByDeparture dep i q ↔ j = i ∨ j ∈ q := by
  induction q with
  | nil => simp [insertByDeparture]
  | cons k rest ih =>
    unfold insertByDeparture
    split
    · simp
    · simp only [List.mem_cons, ih]; tauto

theorem length_insertByDeparture (dep : Fin 48 → Nat) (i : Fin 48) (q : List (Fin 48)) :
    (insertByDeparture dep i q).length = q.length + 1 := by
  induction q with
  | nil => rfl
  | cons k rest ih => unfold insertByDeparture; split <;> simp [ih]

/-- The others stand as they stood. -/
theorem filter_insertByDeparture (dep : Fin 48 → Nat) (i : Fin 48) (q : List (Fin 48)) :
    (insertByDeparture dep i q).filter (fun j => j != i) = q.filter fun j => j != i := by
  induction q with
  | nil => simp [insertByDeparture]
  | cons k rest ih =>
    unfold insertByDeparture
    split
    · simp
    · simp [List.filter_cons, ih]

/-- A list with its departures strictly rising keeps that form. -/
theorem pairwise_insertByDeparture (dep : Fin 48 → Nat) (i : Fin 48) (q : List (Fin 48))
    (sorted : q.Pairwise fun j k => dep j < dep k) (apart : ∀ j ∈ q, dep j ≠ dep i) :
    (insertByDeparture dep i q).Pairwise fun j k => dep j < dep k := by
  induction q with
  | nil => simp [insertByDeparture]
  | cons k rest ih =>
    rw [List.pairwise_cons] at sorted
    unfold insertByDeparture
    split
    · rename_i hlt
      refine List.pairwise_cons.2 ⟨?_, List.pairwise_cons.2 sorted⟩
      intro a ha
      rcases List.mem_cons.1 ha with rfl | ha
      · exact hlt
      · exact hlt.trans (sorted.1 a ha)
    · rename_i hge
      refine List.pairwise_cons.2 ⟨?_, ih sorted.2 fun j hj => apart j (List.mem_cons_of_mem _ hj)⟩
      intro a ha
      rcases (mem_insertByDeparture dep i a rest).1 ha with rfl | ha
      · have := apart k List.mem_cons_self; omega
      · exact sorted.1 a ha

/-! ### Pending and applied grants -/

theorem nextSeq_range (n : Nat) : 1 ≤ nextSeq n ∧ nextSeq n ≤ 15 := by unfold nextSeq; split <;> omega

@[simp] theorem offer_enabled (x : Bay) (m : Mode) (n : Nat) : (x.offer m n).enabled = x.enabled := by unfold Bay.offer; split <;> rfl
@[simp] theorem offer_link (x : Bay) (m : Mode) (n : Nat) : (x.offer m n).link = x.link := by unfold Bay.offer; split <;> rfl
@[simp] theorem offer_misses (x : Bay) (m : Mode) (n : Nat) : (x.offer m n).misses = x.misses := by unfold Bay.offer; split <;> rfl
@[simp] theorem offer_stamp (x : Bay) (m : Mode) (n : Nat) : (x.offer m n).stamp = x.stamp := by unfold Bay.offer; split <;> rfl
@[simp] theorem offer_tele (x : Bay) (m : Mode) (n : Nat) : (x.offer m n).tele = x.tele := by unfold Bay.offer; split <;> rfl
@[simp] theorem offer_applied (x : Bay) (m : Mode) (n : Nat) : (x.offer m n).applied = x.applied := by unfold Bay.offer; split <;> rfl
@[simp] theorem offer_lapse (x : Bay) (m : Mode) (n : Nat) : (x.offer m n).lapse = x.lapse := by unfold Bay.offer; split <;> rfl
@[simp] theorem offer_overdraw (x : Bay) (m : Mode) (n : Nat) : (x.offer m n).overdraw = x.overdraw := by unfold Bay.offer; split <;> rfl
@[simp] theorem offer_reversal (x : Bay) (m : Mode) (n : Nat) : (x.offer m n).reversal = x.reversal := by unfold Bay.offer; split <;> rfl
@[simp] theorem offer_pending_mode (x : Bay) (m : Mode) (n : Nat) : (x.offer m n).pending.mode = m := by
  unfold Bay.offer; split
  · rename_i h; exact h.1
  · rfl
@[simp] theorem offer_pending_steps (x : Bay) (m : Mode) (n : Nat) : (x.offer m n).pending.steps = n := by
  unfold Bay.offer; split
  · rename_i h; exact h.2
  · rfl

/-- Offering a value twice is offering it once. -/
@[simp] theorem offer_offer_same (x : Bay) (m : Mode) (n : Nat) : (x.offer m n).offer m n = x.offer m n := by
  conv_lhs => rw [Bay.offer.eq_1]
  simp

theorem offer_seq_le (x : Bay) (m : Mode) (n : Nat) (h : x.pending.seq ≤ 15) : (x.offer m n).pending.seq ≤ 15 := by
  unfold Bay.offer; split
  · exact h
  · exact (nextSeq_range _).2

/-- The reversal timer after a change of applied mode, in the form of R167. -/
theorem apply_rest (x : Bay) (dead : Nat) (g : Grant) (lapse : Option Nat) : RestAfter dead x (x.apply dead g lapse) := by
  unfold RestAfter Bay.apply
  cases x.applied.mode <;> cases g.mode <;> simp [reversalAfter]

/-! ### Head changes and closing -/

theorem promoteHead_writes (s : State) (b : Fin 32) : ∃ slots, promoteHead s b = { s with slots := slots } := by
  unfold promoteHead
  split
  · exact ⟨_, rfl⟩
  · split
    · exact ⟨_, rfl⟩
    · exact ⟨_, rfl⟩

theorem displace_writes (s : State) (i : Fin 48) : ∃ slots, displace s i = { s with slots := slots } := by
  unfold displace
  split
  · exact ⟨_, rfl⟩
  · exact ⟨_, rfl⟩

theorem rehead_writes (s : State) (b : Fin 32) (old : Option (Fin 48)) : ∃ slots, rehead s b old = { s with slots := slots } := by
  unfold rehead
  split
  · exact ⟨_, rfl⟩
  · split
    · exact promoteHead_writes s b
    · rename_i i _
      obtain ⟨x, hx⟩ := displace_writes s i
      obtain ⟨y, hy⟩ := promoteHead_writes (displace s i) b
      rw [hy, hx]; exact ⟨y, rfl⟩

theorem closeRecord_writes (s : State) (i : Fin 48) (k : OutcomeKind) : ∃ slots, closeRecord s i k = { s with slots := slots } := by
  unfold closeRecord
  split
  · exact ⟨_, rfl⟩
  · exact ⟨_, rfl⟩

theorem leaveQueue_writes (s : State) (b : Fin 32) (gone : List (Fin 48)) :
    ∃ slots queues bays, leaveQueue s b gone = { s with slots := slots, queues := queues, bays := bays } := by
  unfold leaveQueue
  dsimp only
  split
  · exact ⟨_, _, _, rfl⟩
  · split
    · obtain ⟨y, hy⟩ := promoteHead_writes (zeroPending (setQueue s b ((queueAt s b).filter fun i => !gone.contains i)) b) b
      rw [hy]; exact ⟨_, _, _, rfl⟩
    · exact ⟨_, _, _, rfl⟩

theorem closeOrder_writes (s : State) (i : Fin 48) (k : OutcomeKind) :
    ∃ slots queues bays flags,
      closeOrder s i k = { s with slots := slots, queues := queues, bays := bays, flags := flags } := by
  unfold closeOrder
  split
  · exact ⟨_, _, _, _, rfl⟩
  · rename_i o _
    obtain ⟨x, hx⟩ := closeRecord_writes s i k
    obtain ⟨a, b, c, h⟩ := leaveQueue_writes (closeRecord s i k) o.bay [i]
    rw [h, hx]; exact ⟨_, _, _, _, rfl⟩

/-- A fold keeps a property that each of its steps keeps. -/
theorem foldl_keeps {α : Type} (P : State → Prop) (f : State → α → State) (keep : ∀ s a, P s → P (f s a)) (l : List α)
    (s : State) (h : P s) : P (l.foldl f s) := by
  induction l generalizing s with
  | nil => exact h
  | cons a l ih => exact ih _ (keep s a h)

theorem raise_writes {f : EventFlag} {s t : State}
    (h : ∃ slots queues bays, t = { s with slots := slots, queues := queues, bays := bays }) :
    ∃ slots queues bays flags, raise f t = { s with slots := slots, queues := queues, bays := bays, flags := flags } := by
  obtain ⟨a, b, c, rfl⟩ := h
  exact ⟨_, _, _, _, rfl⟩

theorem expire_writes (s : State) :
    ∃ slots queues bays flags, expire s = { s with slots := slots, queues := queues, bays := bays, flags := flags } := by
  unfold expire
  dsimp only
  split
  · exact ⟨_, _, _, _, rfl⟩
  · generalize allSlots.filter (expiresAt s s.clock) = due
    refine raise_writes ?_
    refine foldl_keeps (fun t => ∃ slots queues bays, t = { s with slots := slots, queues := queues, bays := bays }) _ ?_ _ _ ?_
    · rintro _ b ⟨a, q, c, rfl⟩
      obtain ⟨x, y, z, h⟩ := leaveQueue_writes { s with slots := a, queues := q, bays := c } b due
      rw [h]; exact ⟨_, _, _, rfl⟩
    · refine foldl_keeps (fun t => ∃ slots queues bays, t = { s with slots := slots, queues := queues, bays := bays }) _ ?_ _ _
        ⟨_, _, _, rfl⟩
      rintro _ i ⟨a, b, c, rfl⟩
      split
      · exact ⟨_, _, _, rfl⟩
      · rename_i o _
        obtain ⟨x, hx⟩ := closeRecord_writes { s with slots := a, queues := b, bays := c } i (expiryOutcome o)
        rw [hx]; exact ⟨_, _, _, rfl⟩

/-! ### Profiles -/

/-- A profile found is a profile of that tag, and tag 0 has none (R56). -/
theorem findProfile_some {s : State} {tag : Tag} {p : Profile} (h : findProfile s tag = some p) :
    tag ≠ 0 ∧ p ∈ s.profiles ∧ p.tag = tag := by
  unfold findProfile at h
  split at h
  · cases h
  · rename_i ht
    exact ⟨ht, List.mem_of_find?_eq_some h, by simpa using List.find?_some h⟩

theorem findProfile_none {s : State} {tag : Tag} : findProfile s tag = none ↔ tag = 0 ∨ ∀ p ∈ s.profiles, p.tag ≠ tag := by
  unfold findProfile
  split
  · rename_i h; exact ⟨fun _ => .inl h, fun _ => rfl⟩
  · rename_i h
    simp only [List.find?_eq_none, beq_iff_eq]
    exact ⟨.inr, fun n => n.resolve_left h⟩

theorem carries_iff (s : State) (tag : Tag) (i : Fin 48) :
    carries s tag i = true ↔ ∃ o, orderAt s i = some o ∧ o.state ≠ .closed ∧ o.tag = tag := by
  unfold carries
  cases orderAt s i with
  | none => simp
  | some o => simp [Order.live]

theorem referenced_iff (s : State) (tag : Tag) : referenced s tag = true ↔ tag ≠ 0 ∧ Referenced s tag := by
  unfold referenced Referenced
  simp [carries_iff, allSlots]

theorem makeRoom_writes {s t : State} {e : Tag} (h : makeRoom s = some (t, e)) : ∃ profiles, t = { s with profiles := profiles } := by
  unfold makeRoom at h
  split at h
  · cases h; exact ⟨_, rfl⟩
  · simp only [Option.map_eq_some_iff, Prod.mk.injEq] at h
    obtain ⟨v, -, rfl, -⟩ := h
    exact ⟨_, rfl⟩

theorem consult_writes (s : State) (tag : Tag) : ∃ profiles, (consult s tag).1 = { s with profiles := profiles } := by
  unfold consult
  split
  · exact ⟨_, rfl⟩
  · split
    · exact ⟨_, rfl⟩
    · split
      · rename_i t e h
        obtain ⟨p, rfl⟩ := makeRoom_writes h
        exact ⟨_, rfl⟩
      · exact ⟨_, rfl⟩

/-! ### Passes -/

theorem startPass_spec (s : State) : PassStarts s (startPass s) := by
  refine ⟨?_, fun i => ?_⟩
  · simp only [startPass, mapSlots]
  · simp [startPass, slotAt, mapSlots]

theorem requestPass_spec (s : State) : PassRequested s (requestPass s) := by
  unfold requestPass
  cases h : s.pass with
  | none => exact ⟨fun _ => by simpa using startPass_spec s, fun n => absurd h n⟩
  | some p => exact ⟨fun n => by simp [h] at n, fun _ => by simp [h]⟩

theorem endPass_spec (s : State) : PassEnds s (endPass s) := by
  unfold endPass
  cases h : s.passMark with
  | false => exact ⟨fun n => (by rw [h] at n; cases n), fun _ => by simp [h]⟩
  | true => exact ⟨fun _ => by simpa using startPass_spec _, fun n => (by rw [h] at n; cases n)⟩

theorem learningPoint_writes (s : State) (now : Nat) (r : PassResult) (o : Order) :
    ∃ slots profiles, learningPoint s now r o = { s with slots := slots, profiles := profiles } := by
  unfold learningPoint
  dsimp only
  split
  · exact ⟨_, _, rfl⟩
  · exact ⟨_, _, rfl⟩

theorem applyResult_writes (s : State) (now : Nat) (r : PassResult) :
    ∃ slots profiles, applyResult s now r = { s with slots := slots, profiles := profiles } := by
  unfold applyResult
  split
  · exact ⟨_, _, rfl⟩
  · dsimp only
    split
    · obtain ⟨a, b, h⟩ := learningPoint_writes (putOrder s r.head.slot (r.write now ‹_›)) now r (r.write now ‹_›)
      rw [h]; exact ⟨_, _, rfl⟩
    · exact ⟨_, _, rfl⟩

theorem applyResults_writes (now : Nat) (s : State) (rs : List PassResult) :
    ∃ slots profiles, (applyResults now s rs).1 = { s with slots := slots, profiles := profiles } := by
  induction rs generalizing s with
  | nil => exact ⟨_, _, rfl⟩
  | cons r rest ih =>
    unfold applyResults
    split
    · obtain ⟨a, b, h⟩ := applyResult_writes s now r
      obtain ⟨c, d, h'⟩ := ih (applyResult s now r)
      dsimp only
      rw [h', h]; exact ⟨_, _, rfl⟩
    · exact ih s

theorem publishGrant_writes (applied : List PassResult) (s : State) (b : Fin 32) :
    ∃ bays, publishGrant applied s b = { s with bays := bays } := by
  unfold publishGrant
  split
  · exact ⟨_, rfl⟩
  · unfold settleBay
    split
    · exact ⟨_, rfl⟩
    · split
      · exact ⟨_, rfl⟩
      · exact ⟨_, rfl⟩

theorem publishGrants_writes (applied : List PassResult) (l : List (Fin 32)) (s : State) :
    ∃ bays, l.foldl (publishGrant applied) s = { s with bays := bays } :=
  foldl_keeps (fun t => ∃ bays, t = { s with bays := bays }) _
    (by
      rintro _ b ⟨x, rfl⟩
      obtain ⟨y, h⟩ := publishGrant_writes applied { s with bays := x } b
      exact ⟨y, h⟩) l s ⟨_, rfl⟩

/-! ### The bay link -/

theorem nextEnabled_some {s : State} {n : Nat} {b : Fin 32} (h : nextEnabled s n = some b) :
    n ≤ b.val ∧ (bayAt s b).enabled = true ∧ ∀ a : Fin 32, n ≤ a.val → (bayAt s a).enabled = true → b ≤ a := by
  unfold nextEnabled allBays at h
  have hb := List.find?_some h
  simp only [Bool.and_eq_true, decide_eq_true_eq] at hb
  refine ⟨hb.1, hb.2, fun a ha he => ?_⟩
  rw [List.find?_eq_some_iff_append] at h
  obtain ⟨-, before, after, e, none⟩ := h
  have sorted : (List.finRange 32).Pairwise (· < ·) := List.pairwise_lt_finRange 32
  rw [e, List.pairwise_append, List.pairwise_cons] at sorted
  have mem : a ∈ before ++ b :: after := e ▸ List.mem_finRange a
  rcases List.mem_append.1 mem with h1 | h1
  · have := none a h1; simp [ha, he] at this
  · rcases List.mem_cons.1 h1 with rfl | h2
    · exact le_refl _
    · exact le_of_lt (sorted.2.1.1 a h2)

theorem nextEnabled_none {s : State} {n : Nat} : nextEnabled s n = none ↔ WalkDone n s := by
  unfold nextEnabled allBays WalkDone
  simp [List.find?_eq_none]

theorem beginExchange_polls {s : State} {n : Nat} {b : Fin 32} (h : nextEnabled s n = some b) : PollsNext n s (beginExchange s b) := by
  obtain ⟨h1, h2, h3⟩ := nextEnabled_some h
  exact ⟨b, h1, h2, h3, rfl⟩

@[simp] theorem lineFree_iff (s : State) : lineFree s = true ↔ s.hold = none ∧ s.exchange = none ∧ s.sending = none := by
  simp [lineFree, and_assoc]

/-- A waiting ALLSTOP begins on a free line, in the form of R127; otherwise nothing changes. -/
theorem beginAllstop_spec (s : State) : AllstopBegins s (beginAllstop s) := by
  refine ⟨fun list h free => ?_, fun h => ?_⟩
  · rw [beginAllstop, h]
    exact if_pos ((lineFree_iff s).2 free)
  · unfold beginAllstop
    split
    · rfl
    · rename_i list hl
      exact if_neg fun hf => h.elim (by simp [hl]) fun no => no ((lineFree_iff s).1 hf)

theorem beginAllstop_writes (s : State) :
    ∃ allstop allstopFrame sending,
      beginAllstop s = { s with allstop := allstop, allstopFrame := allstopFrame, sending := sending } := by
  unfold beginAllstop
  repeat' split
  all_goals exact ⟨_, _, _, rfl⟩

/-- Going on with a cycle, in the form of R123, R124 and R127. -/
theorem goOn_spec (s : State) (n : Nat) : GoesOn n s (goOn s n) := by
  unfold goOn
  refine ⟨fun h => ?_, fun h hw => ?_, fun h hw hd => ?_, fun h hw hd h0 => ?_, fun h h0 hd => ?_⟩
  · rw [if_pos (by simpa [Option.isSome_iff_ne_none] using h)]
    exact beginAllstop_spec _
  all_goals
    rw [not_or, not_not, not_not] at h
    rw [if_neg (by simp [h])]
  · cases hn : nextEnabled s n with
    | none => exact absurd (nextEnabled_none.1 hn) hw
    | some b => exact beginExchange_polls hn
  · rw [nextEnabled_none.2 hw]; simp [hd]
  · rw [nextEnabled_none.2 hw]
    simp only [hd, if_true]
    unfold walkFrom
    cases hn : nextEnabled { s with deferred := false } 0 with
    | none => exact absurd (nextEnabled_none.1 hn) h0
    | some b => exact beginExchange_polls hn
  · have hw : WalkDone n s := fun a _ => h0 a (Nat.zero_le _)
    rw [nextEnabled_none.2 hw]
    simp only [hd, if_true]
    unfold walkFrom
    rw [nextEnabled_none.2 (show WalkDone 0 { s with deferred := false } from h0)]

theorem openExchange_writes (s : State) : ∃ exchange, openExchange s = { s with exchange := exchange } := ⟨_, rfl⟩

theorem goOn_writes (s : State) (n : Nat) :
    ∃ cycle exchange grantFrame deferred allstop allstopFrame sending,
      goOn s n
        = { s with
            cycle := cycle, exchange := exchange, grantFrame := grantFrame, deferred := deferred, allstop := allstop
            allstopFrame := allstopFrame, sending := sending } := by
  unfold goOn
  split
  · obtain ⟨a, b, c, h⟩ := beginAllstop_writes { s with cycle := some n }
    rw [h]; exact ⟨_, _, _, _, _, _, _, rfl⟩
  · split
    · exact ⟨_, _, _, _, _, _, _, rfl⟩
    · split
      · unfold walkFrom
        split <;> exact ⟨_, _, _, _, _, _, _, rfl⟩
      · exact ⟨_, _, _, _, _, _, _, rfl⟩

/-- The row ALLSTOP, in the form of R123 and R127. -/
theorem sendAllstop_spec (s : State) :
    (s.sending = none → AllstopBegins s (sendAllstop s))
      ∧ (s.sending ≠ none →
          (s.cycle = none → AllstopBegins { s with sending := none } (sendAllstop s))
          ∧ ∀ n, s.cycle = some n → GoesOn n { s with sending := none } (sendAllstop s)) := by
  refine ⟨fun h => ?_, fun h => ⟨fun hc => ?_, fun n hc => ?_⟩⟩
  · simpa [sendAllstop, h] using beginAllstop_spec s
  · have e : sendAllstop s = beginAllstop { s with sending := none } := by
      simp [sendAllstop, Option.isSome_iff_ne_none.2 h, hc]
    rw [e]; exact beginAllstop_spec _
  · have e : sendAllstop s = goOn { s with sending := none } n := by
      simp [sendAllstop, Option.isSome_iff_ne_none.2 h, hc]
    rw [e]; exact goOn_spec _ n

/-! ### Protection -/

theorem handleCause_writes (b : Fin 32) (s : State) (c : Cause) :
    ∃ slots bays flags, handleCause b s c = { s with slots := slots, bays := bays, flags := flags } := by
  unfold handleCause
  split
  · exact ⟨_, _, _, rfl⟩
  · split
    · exact ⟨_, _, _, rfl⟩
    · split
      · exact ⟨_, _, _, rfl⟩
      · split
        · exact ⟨_, _, _, rfl⟩
        · exact ⟨_, _, _, rfl⟩

theorem protectArrival_writes (s : State) (b : Fin 32) (t : Telemetry) :
    ∃ slots bays flags, protectArrival s b t = { s with slots := slots, bays := bays, flags := flags } := by
  unfold protectArrival
  dsimp only
  exact foldl_keeps (fun u => ∃ slots bays flags, u = { s with slots := slots, bays := bays, flags := flags }) _
    (by
      rintro _ c ⟨x, y, z, rfl⟩
      obtain ⟨x', y', z', h⟩ := handleCause_writes b { s with slots := x, bays := y, flags := z } c
      exact ⟨x', y', z', h⟩) _ _ ⟨_, _, _, rfl⟩

theorem accumulate_writes (s : State) (b : Fin 32) (power : Nat) (prev : Option Nat) :
    ∃ slots, accumulate s b power prev = { s with slots := slots } := by
  unfold accumulate
  split
  · exact ⟨_, rfl⟩
  · split
    · exact ⟨_, rfl⟩
    · exact ⟨_, rfl⟩

theorem testUnplug_writes (s : State) (b : Fin 32) (t : Telemetry) :
    ∃ slots queues bays flags, testUnplug s b t = { s with slots := slots, queues := queues, bays := bays, flags := flags } := by
  unfold testUnplug
  split
  · exact ⟨_, _, _, _, rfl⟩
  · split
    · exact closeOrder_writes _ _ _
    · exact ⟨_, _, _, _, rfl⟩

theorem validArrival_writes (s : State) (b : Fin 32) (seqSent echo : Nat) (t : Telemetry) :
    ∃ slots queues bays flags,
      validArrival s b seqSent echo t = { s with slots := slots, queues := queues, bays := bays, flags := flags } := by
  unfold validArrival
  dsimp only
  generalize hr : setBay s b ((bayAt s b).arrive s.tuning.dead s.clock echo seqSent t) = r
  obtain ⟨x, y, z, h1⟩ := protectArrival_writes r b t
  obtain ⟨w, h2⟩ := accumulate_writes (protectArrival r b t) b t.power (bayAt s b).stamp
  obtain ⟨p, q, u, v, h3⟩ := testUnplug_writes (accumulate (protectArrival r b t) b t.power (bayAt s b).stamp) b t
  rw [h3, h2, h1, ← hr]; exact ⟨_, _, _, _, rfl⟩

theorem miss_writes (s : State) (b : Fin 32) :
    ∃ slots bays flags, miss s b = { s with slots := slots, bays := bays, flags := flags } := by
  unfold miss
  dsimp only
  split
  · exact ⟨_, _, _, rfl⟩
  · exact ⟨_, _, _, rfl⟩
  all_goals
    split
    · generalize hr : raise .baySilent (setBay s b _) = r
      obtain ⟨x, y, z, h⟩ := handleCause_writes b r .silent
      rw [h, ← hr]; exact ⟨_, _, _, rfl⟩
    · exact ⟨_, _, _, rfl⟩

theorem yieldOpening_writes (s : State) :
    ∃ cycle exchange grantFrame,
      yieldOpening s = { s with cycle := cycle, exchange := exchange, grantFrame := grantFrame } := by
  unfold yieldOpening
  split
  · exact ⟨_, _, _, rfl⟩
  · split
    · exact ⟨_, _, _, rfl⟩
    · exact ⟨_, _, _, rfl⟩

/-- Without an opening exchange there is no GRANT to take back. -/
theorem yieldOpening_other {s : State} (h : ¬Opening s) : yieldOpening s = s := by
  unfold yieldOpening
  split
  · rfl
  · rename_i x hx
    split
    · rename_i e
      exact absurd ⟨x, hx, by simpa using e⟩ h
    · rfl

theorem yieldOpening_opening {s : State} (h : Opening s) :
    yieldOpening s = { s with cycle := some 0, exchange := none, grantFrame := [] } := by
  obtain ⟨x, hx, ho, ha⟩ := h
  simp [yieldOpening, hx, ho, ha]

theorem requestAllstop_writes (list : Word) (s : State) :
    ∃ allstop cycle exchange grantFrame allstopFrame sending,
      requestAllstop list s
        = { s with
            allstop := allstop, cycle := cycle, exchange := exchange, grantFrame := grantFrame
            allstopFrame := allstopFrame, sending := sending } := by
  unfold requestAllstop
  split
  · exact ⟨_, _, _, _, _, _, rfl⟩
  · split
    · exact ⟨_, _, _, _, _, _, rfl⟩
    · obtain ⟨a, b, c, h⟩ := yieldOpening_writes s
      rw [h]
      obtain ⟨d, e, f, g⟩ := beginAllstop_writes
        { s with cycle := a, exchange := b, grantFrame := c, allstop := some (joinList list s.allstop) }
      exact ⟨_, _, _, _, _, _, g⟩

/-- An ALLSTOP request, in the form of R123 and R127. -/
theorem requestAllstop_spec (list : Word) (s : State) : AllstopRequested list s (requestAllstop list s) := by
  have join : joinList list s.allstop = s.allstop.getD 0 ||| list := by cases s.allstop <;> simp [joinList]
  refine ⟨fun h => ?_, fun hl hh => ⟨yieldOpening s, yieldOpening_opening, yieldOpening_other, ?_⟩⟩
  · by_cases hl : list = 0
    · simp [requestAllstop, hl]
    · simp [requestAllstop, Option.isSome_iff_ne_none.2 (h.resolve_left hl)]
  · have e : requestAllstop list s = beginAllstop { yieldOpening s with allstop := some (joinList list s.allstop) } := by
      rw [requestAllstop, if_neg hl, if_neg (by simp [hh])]
    rw [e, join]
    exact beginAllstop_spec _

theorem curtailBay_writes (s : State) (b : Fin 32) : ∃ slots bays, curtailBay s b = { s with slots := slots, bays := bays } := by
  unfold curtailBay
  split
  · unfold pauseHead
    split
    · exact ⟨_, _, rfl⟩
    · exact ⟨_, _, rfl⟩
  · exact ⟨_, _, rfl⟩

theorem curtailBays_writes (l : List (Fin 32)) (s : State) :
    ∃ slots bays, l.foldl curtailBay s = { s with slots := slots, bays := bays } :=
  foldl_keeps (fun t => ∃ slots bays, t = { s with slots := slots, bays := bays }) _
    (by
      rintro _ b ⟨x, y, rfl⟩
      obtain ⟨x', y', h⟩ := curtailBay_writes { s with slots := x, bays := y } b
      exact ⟨x', y', h⟩) l s ⟨_, _, rfl⟩

/-- Bit b of a bay list is set exactly for the bays of the list (R184). -/
theorem bayList_bit (p : Fin 32 → Bool) (b : Fin 32) : (bayList p).getLsbD b.val = p b := by
  have fold : ∀ (l : List (Fin 32)) (w : Word),
      (l.foldl (fun w b => if p b then w ||| BitVec.twoPow 32 b.val else w) w).getLsbD b.val
        = (w.getLsbD b.val || (decide (b ∈ l) && p b)) := by
    intro l
    induction l with
    | nil => intro w; simp
    | cons a l ih =>
      intro w
      rw [List.foldl_cons, ih]
      by_cases e : b = a
      · subst e
        cases hp : p b <;> simp
      · have ne : ¬b.val = a.val := fun h => e (Fin.ext h)
        cases hp : p a <;> simp [e, ne]
  unfold bayList
  rw [fold]
  simp [allBays]

/-! ### Lines -/

/-- An edge at the pins writes nothing but the pins, the frame being received, the CURT filter and the queue. -/
theorem pinEdge_writes (e : PinEdge) (s : State) :
    ∃ pending rx pins curt, pinEdge e s = { s with pending := pending, rx := rx, pins := pins, curt := curt } := by
  cases e <;> simp only [pinEdge, beginTransfer, endTransfer, sampleMosi, driveMiso, enterReset, leaveReset] <;>
    (repeat' split) <;> exact ⟨_, _, _, _, rfl⟩

/-- Nothing holds the part in reset. -/
theorem held_eq_false {p : Pins} : p.held = false ↔ p.supply = .over ∧ p.resetN = .over := by simp [Pins.held]

@[simp] theorem held_afterReset (p : Pins) : p.afterReset.held = p.held := rfl

/-! ### The CURT filter (R149) -/

@[simp] theorem steady_line (level : Bool) : (CurtFilter.steady level).line = level := rfl
@[simp] theorem steady_level (level : Bool) : (CurtFilter.steady level).level = level := rfl
@[simp] theorem steady_since (level : Bool) : (CurtFilter.steady level).since = 0 := rfl

@[simp] theorem settle_level (f : CurtFilter) (level : Bool) : (f.settle level).level = level := by
  unfold CurtFilter.settle; split <;> simp_all

@[simp] theorem drive_line (f : CurtFilter) (line : Bool) : (f.drive line).line = line := by
  unfold CurtFilter.drive; split <;> simp_all

@[simp] theorem drive_level (f : CurtFilter) (line : Bool) : (f.drive line).level = f.level := by
  unfold CurtFilter.drive; split <;> rfl

/-- The filter counts on, or the line stands at the filtered level. -/
theorem count_cases (f : CurtFilter) :
    (f.line = f.level ∧ f.count = f) ∨ (f.line ≠ f.level ∧ f.count = { f with since := f.since + 640 }) := by
  by_cases h : f.line = f.level <;> simp [CurtFilter.count, h]

theorem due_iff (f : CurtFilter) : f.due = true ↔ f.line ≠ f.level ∧ 16000 ≤ f.since := by
  rw [CurtFilter.due, Bool.and_eq_true, bne_iff_ne, decide_eq_true_iff]; exact Iff.rfl

/-- In every step that is not held the line event judges the change; held, it moves the filter alone. -/
theorem curtLineChange_eq (level : Bool) (s : State) :
    curtLineChange level s =
      if s.pins.held then { s with curt := s.curt.settle level }
      else judgeCurtailment (inForce s) { s with curt := s.curt.settle level, lineState := level } := rfl

/-- Outside a transfer SCLK and MOSI have no effect (R171, R172). -/
theorem pinEdge_ignored {s : State} (h : receiving s = false) :
    (∀ mosi, pinEdge (.sclkRise mosi) s = s) ∧ pinEdge .sclkFall s = s ∧ misoLevel s = none := by
  simp [pinEdge, sampleMosi, driveMiso, misoLevel, h]

theorem length_bitsMsb (b : Byte) : (bitsMsb b).length = 8 := by simp [bitsMsb]

theorem getElem?_bitsMsb (b : Byte) {j : Nat} (h : j < 8) : (bitsMsb b)[j]? = some (b.getLsbD (7 - j)) := by
  simp [bitsMsb, h]

theorem length_flatMap_bitsMsb (bytes : List Byte) : (bytes.flatMap bitsMsb).length = 8 * bytes.length := by
  induction bytes with
  | nil => rfl
  | cons b bytes ih => simp only [List.flatMap_cons, List.length_append, length_bitsMsb, ih, List.length_cons]; omega

/-- The bits of some bytes with fewer than eight left over are assembled as those bytes (R171). -/
theorem assembledAs_bits (bytes : List Byte) (rest : List Bool) (h : rest.length < 8) :
    AssembledAs (bytes.flatMap bitsMsb ++ rest) bytes := by
  refine ⟨by rw [List.length_append, length_flatMap_bitsMsb]; omega, ?_⟩
  induction bytes with
  | nil => intro k b hb; simp at hb
  | cons a bytes ih =>
    intro k b hb j hj
    rw [List.flatMap_cons, List.append_assoc]
    cases k with
    | zero =>
      simp only [List.getElem?_cons_zero, Option.some.injEq] at hb
      subst hb
      rw [List.getElem?_append_left (by rw [length_bitsMsb]; omega)]
      simpa using getElem?_bitsMsb a hj
    | succ k =>
      rw [List.getElem?_append_right (by rw [length_bitsMsb]; omega), length_bitsMsb]
      have := ih k b (by simpa using hb) j hj
      rwa [show 8 * (k + 1) + j - 8 = 8 * k + j by omega]

/-- A part held in reset stands still on an empty queue, but for its CURT filter. -/
theorem tick_held {s : State} (h : s.pins.held = true) : tick s = filterTime s := by simp [tick, h]

/-- What the CURT filter of a held part does in an idle step: counts on, or takes the level the line has kept for 1 ms. -/
theorem filterTime_cases (s : State) :
    (s.curt.count.due = false ∧ filterTime s = { s with curt := s.curt.count })
      ∨ (s.curt.count.due = true ∧ filterTime s = { s with curt := s.curt.count.settle s.curt.count.line }) := by
  cases h : s.curt.count.due <;> simp [filterTime, h]

theorem tick_running {s : State} (h : s.pins.held = false) : tick s = passTime s := by simp [tick, h]

end Sys2Proof.Machine
end

