-- ==== Sys2Proof/Tests/Slice0.lean ====
section
/-! SUPPORT. The author's own tests. Expected values come from the spec: its tables, its worked cases (named in each
docstring) or its rules' words. The `witness_…` theorems show, for each statement with hypotheses, a state and operands
that meet them together. -/

open Sys2Proof Sys2Proof.Machine Sys2Proof.Safety

namespace Sys2Proof.Tests

-- Elaborated one by one: the evaluations below would otherwise run in more threads than a memory limit allows.
set_option Elab.async false

/-! ### Small states -/

/-- The state after a command (the same state, did it not answer next). -/
def after (c : Instr) (s : State) : State :=
  match exec c s with
  | .next t => t
  | .fault _ => s
  | .refused _ => s

/-- The response code of a command. -/
def code (c : Instr) (s : State) : RespCode := (after c s).response.code

/-- The response payload of a command, as numbers. -/
def payload (c : Instr) (s : State) : List Nat := (after c s).response.payload.map BitVec.toNat

/-- An order of target 21.0 °C and band 1.0 °C; its activation record, if started, is that of section 3.8. -/
def anOrder (bay : Fin 32) (departure : Nat) (state : OrderState) (started : Bool) : Order :=
  { bay := bay, tag := 0, departure := departure, target := 210, band := 10, priority := .standard, locked := false
    state := state, started := started
    activation := if started then some { cabin := -60, loss := 580, time := 19700, kc := 45, u := 20 } else none
    energy := 0, remainder := 0, figures := none, flags := .atOpen false, trip := none, outcome := none }

/-- Puts a live order in a slot and last in its bay's queue. -/
def place (i : Fin 48) (o : Order) (s : State) : State := setQueue (putOrder s i o) o.bay (queueAt s o.bay ++ [i])

/-- A commissioned depot at clock 40,000: caps and windows of sections 5.3 and 5.6, no hold, no flag. -/
def depot : State :=
  { State.reset with
    clock := 40000, hold := none, flags := 0, ceiling := 800, workingCap := 700, curtailCap := 250, fallbackCap := 300
    windows := #v[{ base := 0, limit := 15, cap := 400 }, { base := 16, limit := 27, cap := 350 },
                  { base := 24, limit := 30, cap := 200 }, { base := 31, limit := 0, cap := 0 }] }

/-- The table of section 9.5, "A clock set across departures". -/
def night : State :=
  place 3 (anOrder 9 45000 .planned false) (place 2 (anOrder 8 41000 .active true)
    (place 1 (anOrder 3 42000 .queued false) (place 0 (anOrder 3 40500 .holding true) depot)))

/-- A bay's telemetry. -/
def tele (cabin outdoor : Int) (power : Nat) : Telemetry :=
  { connector := .plugged, tag := 0, cabin := cabin, outdoor := outdoor, heatCap := 60, coolCap := 60, power := power
    hvac := .idle }

/-- An ONLINE bay at clock 40,000 with telemetry, under a grant that is applied and pending alike. -/
def onlineBay (mode : Mode) (steps seq : Nat) (t : Telemetry) : Bay :=
  { enabled := true, link := .online, misses := 0, stamp := some 40000, tele := some t
    pending := { mode := mode, steps := steps, seq := seq }, applied := { mode := mode, steps := steps, seq := seq }
    lapse := if steps = 0 then none else some 160000000, overdraw := 0, reversal := none }

/-- The night with bay 8 running HEAT 20. -/
def running : State := setBay night 8 (onlineBay .heat 20 5 (tele 140 (-80) 2100))

/-- Bay 8 polled, its reply window open. -/
def polled : State := { running with cycle := some 9, exchange := some { bay := 8, seqSent := 5, age := 0, opening := false } }

/-- A TELE of bay 8. -/
def reply (echo connector : Byte) (cabin : Half) (power : Half) (hvac : Byte) : List RxChar :=
  teleChars 8 echo connector 0 cabin (BitVec.ofInt 16 (-80)) 60 60 power hvac

/-! ### Sound tables, checked by evaluation -/

def queuesOk (s : State) : Bool :=
  (allSlots.all fun i => match orderAt s i with
    | some o => !o.live || (queueAt s o.bay).contains i
    | none => true)
  && allBays.all fun b =>
    decide ((queueAt s b).length ≤ 3)
    && ((queueAt s b).all fun i => match orderAt s i with
        | some o => o.bay == b && o.live
        | none => false)
    && decide ((queueAt s b).Pairwise fun i j => departureAt s i + 900 ≤ departureAt s j)
    && ((queueAt s b).head?.all fun i => (orderAt s i).all fun o => o.state != .queued)
    && ((queueAt s b).tail.all fun i => (orderAt s i).all fun o => o.state == .queued && !o.started)

theorem queuesSound_of_ok {s : State} (h : queuesOk s = true) : QueuesSound s := by
  unfold queuesOk at h
  simp only [Bool.and_eq_true, List.all_eq_true, allSlots, allBays, List.mem_finRange, true_implies, decide_eq_true_eq] at h
  obtain ⟨hs, hb⟩ := h
  intro b
  obtain ⟨⟨⟨⟨h1, h2⟩, h3⟩, h4⟩, h5⟩ := hb b
  refine ⟨h1, fun i => ⟨fun m => ?_, ?_⟩, h3, ?_, ?_⟩
  · have := h2 i m
    change ∃ o, orderAt s i = some o ∧ o.bay = b ∧ o.live = true
    cases ho : orderAt s i with
    | none => simp [ho] at this
    | some o => simp only [ho, Bool.and_eq_true, beq_iff_eq] at this; exact ⟨o, rfl, this⟩
  · rintro ⟨o, ho, rfl, live⟩
    have := hs i
    change orderAt s i = some o at ho
    simp only [ho, live, Bool.not_true, Bool.false_or, List.contains_iff_mem] at this
    exact this
  · intro i hi o ho
    change orderAt s i = some o at ho
    have := h4
    rw [show (queueAt s b).head? = some i from hi] at this
    simpa [ho] using this
  · intro i hi o ho
    change orderAt s i = some o at ho
    have := h5 i hi
    simpa [ho] using this

theorem night_queues : QueuesSound night := queuesSound_of_ok (by decide +kernel)
theorem running_queues : QueuesSound running := queuesSound_of_ok (by decide +kernel)
theorem polled_queues : QueuesSound polled := queuesSound_of_ok (by decide +kernel)

/-- What holds of every order of a table, checked by evaluation. -/
theorem every_order {s : State} {P : Fin 48 → Order → Prop} [∀ i o, Decidable (P i o)]
    (h : (allSlots.all fun i => (orderAt s i).all fun o => decide (P i o)) = true) : ∀ i o, orderAt s i = some o → P i o := by
  intro i o ho
  simp only [List.all_eq_true, allSlots, List.mem_finRange, true_implies] at h
  have := h i
  simpa [ho] using this

/-! ### WellFormed refuses ill-formed terms -/

/-- A REPORT_LOAD of more than 4 feeders (R112). -/
theorem test_wf_refuses_count : (Instr.reportLoad 1 5 [0, 0, 0, 0, 0]).wellFormed = false := by decide

/-- A REPORT_LOAD whose list does not match its count (R182). -/
theorem test_wf_refuses_list : (Instr.reportLoad 1 2 [7]).wellFormed = false := by decide

/-- A FRAME_ERROR that is a good frame, and one without a byte. -/
theorem test_wf_refuses_good_frame : (Instr.frameError [0x00, 0x00, 0x41]).wellFormed = false := by decide +kernel
theorem test_wf_refuses_no_byte : (Instr.frameError []).wellFormed = false := by decide
theorem test_wf_accepts : (Instr.frameError [0x00, 0x00, 0x40]).wellFormed = true := by decide +kernel

/-! ### The port -/

/-- The table of check values of R175. -/
theorem test_crc_table :
    [crc8 [0, 0], crc8 [1, 0], crc8 [2, 0], crc8 [3, 0], crc8 [4, 0], crc8 [7, 0], crc8 [0x0F, 0],
     crc8 [0x31, 0x32, 0x33, 0x34, 0x35, 0x36, 0x37, 0x38, 0x39]]
      = [0x41, 0x0D, 0xD9, 0x95, 0x6C, 0xB8, 0xE2, 0xB4] := by decide +kernel

/-- The example of section 8.2 and the transfers 1, 2, 3, 4 and 7 of section 8.5, bit for bit. -/
theorem test_frames_decode :
    judgeFrame [0x00, 0x00, 0x41] = some (.command .nop)
    ∧ judgeFrame [0x01, 0x00, 0x0D, 0, 0, 0, 0, 0, 0, 0] = some (.command .status)
    ∧ judgeFrame [0x07, 0x00, 0xB8, 0, 0, 0, 0, 0, 0, 0] = some (.error .badCommand)
    ∧ judgeFrame [0x00, 0x00, 0x42] = some (.error .crcError)
    ∧ judgeFrame [0x01, 0x00] = some (.error .badLength)
    ∧ judgeFrame [0x0F, 0x00, 0xE2] = some (.command .softReset)
    ∧ judgeFrame [] = none := by decide +kernel

/-- The payload layouts of section 8.7, byte by byte, for one command of each block. -/
theorem test_payloads_decode :
    decodePayload 0x05 [0x12, 0x34, 0x56, 0x78] = .command (.setClock 0x12345678)
    ∧ decodePayload 0x10 [7, 0x00, 0x00, 0xA1, 0x14, 0x00, 0x01, 0x89, 0xC0, 0x00, 0xD2, 12, 2, 3]
      = .command (.openOrder 7 0xA114 100800 210 12 2 3)
    ∧ decodePayload 0x11 [3, 1, 0, 1, 0x00, 0x01, 0x7E, 0xD0, 0, 0, 0, 0, 0, 0, 0, 9]
      = .command (.amend ⟨3, 1⟩ 0 1 98000 0 0 0 9)
    ∧ decodePayload 0x17 [1, 0, 0, 0xA1, 0x14, 47] = .command (.findByTag 0xA114 47)
    ∧ decodePayload 0x21 [0x00, 0xB2, 0x00, 0x19, 80, 30, 0] = .command (.profilePreset 0xB20019 80 30 0)
    ∧ decodePayload 0x34 [1, 16, 27, 0x01, 0x5E] = .command (.setFeeder 1 16 27 350)
    ∧ decodePayload 0x35 [0x01, 0x7C, 2, 0x00, 0xD2, 0x00, 0xA0] = .command (.reportLoad 380 2 [210, 160])
    ∧ decodePayload 0x40 [0x80, 0x00, 0x00, 0x01] = .command (.enableBays 0x80000001)
    ∧ decodePayload 0x51 [1] = .command (.curtail 1) := by decide +kernel

/-- Section 8.5: what transfers 1 to 6 leave prepared, the clock standing at 1. -/
def first : State := { State.reset with clock := 1 }

theorem test_transfers :
    misoBytes first 10 = [0x00, 0x00, 0x41, 0, 0, 0, 0, 0, 0, 0]
    ∧ (misoBytes (after .status first) 9) = [0x01, 0x07, 0x80, 0x00, 0x00, 0x00, 0x00, 0x00, 0x01]
    ∧ misoBytes (after (.frameError [0x07, 0x00, 0xB8]) first) 3 = [0x04, 0x00, 0x6C]
    ∧ misoBytes (after (.frameError [0x00, 0x00, 0x42]) first) 3 = [0x02, 0x00, 0xD9]
    ∧ misoBytes (after (.frameError [0x01, 0x00]) first) 3 = [0x03, 0x00, 0x95]
    ∧ (after .nop (after .status first)).response = { code := .nothing, payload := [] }
    ∧ (after .shortTransfer (after .status first)).response = (after .status first).response
    ∧ payload .status (after .softReset first) = [0x80, 0, 0, 0, 0, 0, 1] := by decide +kernel

/-- The GRANT of section 8.8: bay 5, HEAT 20, sequence 7. -/
theorem test_grant_bytes : grantBytes 5 { mode := .heat, steps := 20, seq := 7 } = [0x05, 0x01, 0x07, 0x01, 0x14, 0xD2] := by
  decide +kernel

/-! ### Clock, flags and tuning -/

/-- Section 9.5, "Attention through a start-up". -/
theorem test_attention :
    attnAsserted State.reset = true
    ∧ payload (.clearStatus 0x80) State.reset = [0x00]
    ∧ attnAsserted (after (.clearStatus 0x80) State.reset) = false
    ∧ attnAsserted { State.reset with flags := 0x44, mask := 0x0B } = false
    ∧ attnAsserted { State.reset with flags := 0x46, mask := 0x0B } = true
    ∧ payload (.clearStatus 0x02) { State.reset with flags := 0x46, mask := 0x0B } = [0x44]
    ∧ attnAsserted (after (.setAttnMask 0x0F) { State.reset with flags := 0x44, mask := 0x0B }) = true := by decide +kernel

/-- Section 9.5, "A clock set across departures". -/
theorem test_set_clock_41200 :
    let t := after (.setClock 41200) night
    queueAt t 3 = [1] ∧ queueAt t 8 = [] ∧ queueAt t 9 = [3]
    ∧ (orderAt t 0).map (fun o => o.outcome.map fun r => r.kind) = some (some .ready)
    ∧ (orderAt t 1).map (fun o => o.state) = some .planned
    ∧ (orderAt t 2).map (fun o => o.outcome.map fun r => r.kind) = some (some .short)
    ∧ (orderAt t 3).map (fun o => o.state) = some .planned
    ∧ t.flags = 0x01 := by decide +kernel

/-- An advance reaches a departure exactly (R27); the count saturates (R190). -/
theorem test_clock_advance :
    (orderAt (after .clockAdvance { night with clock := 40499 }) 0).map (fun o => o.state) = some .closed
    ∧ (orderAt (after .clockAdvance { night with clock := 40498 }) 0).map (fun o => o.state) = some .holding
    ∧ (after .clockAdvance { depot with clock := 4294967295, phase := 9 }).clock = 4294967295
    ∧ payload .readClock depot = [0, 0, 0x9C, 0x40] := by decide +kernel

/-- The clamps of R194, both ends, in the response. -/
theorem test_tuning_clamps :
    payload (.setTuning 4 29 599 4 0xFF 2) depot = [0, 5, 0, 30, 0x02, 0x58, 0, 5, 0x0F, 3]
    ∧ payload (.setTuning 61 601 7201 301 0x12 31) depot = [0, 60, 0x02, 0x58, 0x1C, 0x20, 0x01, 0x2C, 0x02, 30] := by
  decide +kernel

/-! ### Orders -/

/-- The slots of section 1.9 before the example starts. -/
def evening : State :=
  { putOrder (putOrder (putOrder depot 0 (anOrder 1 90000 .closed true)) 1 (anOrder 1 90000 .closed true)) 2
      (anOrder 1 90000 .closed true) with clock := 72000 }

/-- Section 1.9, the OPENs and the QUEUE_FULL. -/
theorem test_open_evening :
    let s := setSlot evening 3 { slotAt evening 3 with gen := 1 }
    let a := after (.openOrder 7 0 100800 210 0 0 0) s
    let b := after (.openOrder 7 0 102000 210 0 0 0) { a with clock := 72120 }
    let c := after (.openOrder 7 0 99000 210 0 0 0) { b with clock := 72300 }
    a.response.payload = [3, 1]
    ∧ code (.openOrder 7 0 101400 210 0 0 0) { a with clock := 72100 } = .conflict
    ∧ b.response.payload = [4, 0] ∧ queueAt b 7 = [3, 4]
    ∧ c.response.payload = [5, 0] ∧ queueAt c 7 = [5, 3, 4]
    ∧ ([5, 3, 4].map fun i => (orderAt c i).map fun o => o.state) = [some .planned, some .queued, some .queued]
    ∧ code (.openOrder 7 0 106000 210 0 0 0) { c with clock := 72400 } = .queueFull := by decide +kernel

/-- The other checks of R13, at their boundaries. -/
theorem test_open_checks :
    code (.openOrder 32 0 41000 210 0 0 0) night = .badValue ∧ code (.openOrder 31 0 41000 210 0 3 0) night = .badValue
    ∧ code (.openOrder 31 0 40059 210 0 2 0) night = .badTime ∧ code (.openOrder 31 0 40060 210 0 2 0) night = .ok
    ∧ code (.openOrder 31 0 644801 210 0 2 0) night = .badTime ∧ code (.openOrder 31 0 644800 210 0 2 0) night = .ok
    ∧ code (.openOrder 3 0 42899 210 0 0 0) night = .conflict ∧ code (.openOrder 3 0 42900 210 0 0 0) night = .ok
    ∧ code (.openOrder 8 0 40100 210 0 0 0) night = .conflict ∧ code (.openOrder 9 0 44100 210 0 0 0) night = .ok
    ∧ code (.openOrder 4 0 41000 210 0 0 0) (mapSlots (fun _ _ => slotAt night 3) night) = .tableFull := by decide +kernel

/-- The checks of R16 and R17, at their boundaries; section 1.9, "97,000". -/
theorem test_amend_checks :
    code (.amend ⟨3, 0⟩ 0 8 0 0 0 3 0) night = .badValue ∧ code (.amend ⟨4, 0⟩ 0 1 41000 0 0 0 0) night = .noOrder
    ∧ code (.amend ⟨48, 0⟩ 0 1 41000 0 0 0 0) night = .noOrder ∧ code (.amend ⟨3, 1⟩ 0 1 41000 0 0 0 0) night = .noOrder
    ∧ code (.amend ⟨2, 0⟩ 0 2 0 0 0 0 0) evening = .closed
    ∧ code (.amend ⟨3, 0⟩ 0 2 0 0 0 0 0) (after (.lock ⟨3, 0⟩) night) = .locked
    ∧ code (.amend ⟨3, 0⟩ 1 2 0 0 0 0 0) (after (.lock ⟨3, 0⟩) night) = .ok
    ∧ code (.amend ⟨2, 0⟩ 0 16 0 0 0 0 9) night = .started ∧ code (.amend ⟨2, 0⟩ 0 16 0 0 0 0 0) night = .ok
    ∧ code (.amend ⟨3, 0⟩ 0 1 40059 0 0 0 0) night = .badTime
    ∧ code (.amend ⟨1, 0⟩ 0 1 40100 0 0 0 0) night = .conflict ∧ code (.amend ⟨0, 0⟩ 0 1 50000 0 0 0 0) night = .conflict
    ∧ code (.amend ⟨1, 0⟩ 0 1 41400 0 0 0 0) night = .ok := by decide +kernel

/-- An AMEND clamps target and band, and displaces an unstarted head it passes (R18). -/
theorem test_amend_writes :
    (orderAt (after (.amend ⟨3, 0⟩ 0 6 0 0xFFFF 255 0 0) night) 3).map (fun o => (o.target, o.band)) = some (160, 30)
    ∧ (let s := place 4 (anOrder 9 46000 .queued false) night
       let t := after (.amend ⟨3, 0⟩ 0 1 47000 0 0 0 0) s
       queueAt t 9 = [4, 3]
       ∧ ([4, 3].map fun i => (orderAt t i).map fun o => o.state) = [some .planned, some .queued]) := by decide +kernel

/-- The answers of LOCK, UNLOCK, CLOSE, RETIRE and LOOKUP (R20 to R23). -/
theorem test_handle_checks :
    code (.lock ⟨5, 0⟩) night = .noOrder ∧ code (.lock ⟨2, 0⟩) evening = .closed
    ∧ (orderAt (after (.lock ⟨3, 0⟩) night) 3).map (fun o => o.locked) = some true
    ∧ (orderAt (after (.unlock ⟨3, 0⟩) (after (.lock ⟨3, 0⟩) night)) 3).map (fun o => o.locked) = some false
    ∧ code (.close ⟨3, 0⟩ 0) (after (.lock ⟨3, 0⟩) night) = .locked
    ∧ code (.close ⟨3, 0⟩ 1) (after (.lock ⟨3, 0⟩) night) = .ok
    ∧ code (.retire ⟨3, 0⟩) night = .notClosed
    ∧ code (.lookup ⟨3, 0⟩ 3) night = .badValue ∧ code (.lookup ⟨3, 1⟩ 2) night = .noOrder := by decide +kernel

/-- A CLOSE ends the head of bay 3 and promotes the next (R10); a RETIRE advances the generation (R22, section 1.9). -/
theorem test_close_and_retire :
    let t := after (.close ⟨0, 0⟩ 0) night
    queueAt t 3 = [1] ∧ t.flags = 0x01
    ∧ (orderAt t 1).map (fun o => o.state) = some .planned
    ∧ (orderAt t 0).map (fun o => o.outcome.map fun r => r.kind) = some (some .ended)
    ∧ (slotAt (after (.retire ⟨0, 0⟩) t) 0).gen = 1
    ∧ code (.lookup ⟨0, 0⟩ 0) (after (.retire ⟨0, 0⟩) t) = .noOrder
    ∧ (slotAt (after (.retire ⟨0, 255⟩) (setSlot t 0 { slotAt t 0 with gen := 255 })) 0).gen = 0 := by decide +kernel

/-- LOOKUP parts 0 and 1 in the layouts of section 8.7. -/
theorem test_lookup :
    payload (.lookup ⟨2, 0⟩ 0) night
      = [2, 0, 8, 0, 0, 0, 0, 0, 0, 0xA0, 0x28, 0, 210, 10, 0, 0, 2, 0, 1, 0, 0, 0, 0, 0, 0, 0]
    ∧ payload (.lookup ⟨2, 0⟩ 1) night
      = [1, 0xFF, 0xC4, 0x02, 0x44, 0, 0, 0x4C, 0xF4, 45, 20, 0, 0, 0, 0, 0, 0, 0, 0, 0, 0, 0, 0, 0, 0, 0, 0, 0] := by
  decide +kernel

/-- The three forms of FIND (R24 to R26). -/
theorem test_find :
    payload (.findByBay 3) night = [2, 0, 0, 1, 0] ∧ code (.findByBay 32) night = .badValue
    ∧ payload (.findByTag 0 1) night = [3, 0, 1, 0, 2, 0, 3, 0] ∧ code (.findByTag 0 48) night = .badValue
    ∧ payload (.findByState 6 0) evening = [3, 0, 0, 0, 1, 0, 2, 0] ∧ code (.findByState 7 0) night = .badValue := by
  decide +kernel

/-! ### Profiles and learning -/

/-- The profile and the order of section 3.8. -/
def known : Profile := { tag := 0x00A1C442, kc := 45, u := 20, samples := 4, pinned := false }

def learner : State :=
  { putOrder depot 0 { anOrder 12 30000 .active true with tag := 0x00A1C442, energy := 1480 } with
    clock := 20600, profiles := [{ known with tag := 5 }, known], queues := (setQueue depot 12 [0]).queues }

/-- The result that takes it into HOLDING at cabin 20.0 °C. -/
def holdingResult : PassResult :=
  { head :=
      { slot := 0, gen := 0, state := .active, bay := 12, tag := 0x00A1C442, departure := 30000, target := 210, band := 10
        priority := .standard, started := true
        activation := some { cabin := -60, loss := 580, time := 19700, kc := 45, u := 20 }, kc := 45, u := 20 }
    eval := evaluate
      { now := 20600, state := .active, departure := 30000, target := 210, band := 10, kc := 45, u := 20
        tele := some (tele 200 (-80) 2000), lead := 1800 }
    newState := .holding, reversing := false, starved := false, mode := .off, steps := 0 }

/-- Section 3.8, "Learning from a cold start" and "The same run, other profiles". -/
theorem test_learning :
    (applyResult learner 20600 holdingResult).profiles = [{ known with kc := 47, samples := 5 }, { known with tag := 5 }]
    ∧ (orderAt (applyResult learner 20600 holdingResult) 0).map (fun o => o.flags.learned) = some true
    ∧ (Profile.learn { known with samples := 0 } 51).kc = 51
    ∧ (Profile.learn { known with samples := 255 } 51) = { known with kc := 47, samples := 255 } := by decide +kernel

/-- Section 3.8, "Rounding and clamping", and "No energy left after the loss". -/
theorem test_observed_kc :
    observedKc 0 600 40 102 = some 26 ∧ observedKc 300 1200 40 1200 = some 250 ∧ observedKc 1000 1800 300 700 = some 10
    ∧ observedKc 580 900 260 140 = none := by decide

/-- PROFILE_PRESET clamps, reads back and drops (R61 to R64). -/
theorem test_profiles :
    payload (.profilePreset 9 4 255 1) learner = [1, 0, 0, 0, 0]
    ∧ payload (.profileRead 9) (after (.profilePreset 9 4 255 1) learner) = [0, 0, 0, 9, 10, 100, 0, 1, 0, 0, 3]
    ∧ code (.profilePreset 0 45 20 0) learner = .badValue
    ∧ code (.profileDrop 0x00A1C442) learner = .inUse ∧ code (.profileDrop 9) learner = .noProfile
    ∧ (after (.profileDrop 5) learner).profiles = [known] := by decide +kernel

/-! ### Demand arithmetic -/

/-- The case of section 2.10. -/
def coldMorning : EvalInput :=
  { now := 20500, state := .active, departure := 21600, target := 210, band := 10, kc := 45, u := 20
    tele := some (tele (-60) (-80) 0), lead := 1800 }

/-- Section 2.10, "A cold morning" and "The same order, an hour earlier". -/
theorem test_cold_morning :
    (evaluate coldMorning).figures
      = { wanted := .heat, demand := 46, eNeed := 1215, tNeed := 808, slack := 292, startAt := 20492 }
    ∧ (evaluate coldMorning).loss = 580
    ∧ (evaluate { coldMorning with now := 18000, state := .planned }).demand = 18 := by decide +kernel

/-- Section 2.10, "Holding, drifting, and returning to conditioning". -/
theorem test_holding :
    let held := evaluate { coldMorning with state := .holding, now := 21120, tele := some (tele 205 (-80) 0) }
    let drifted := evaluate { coldMorning with state := .holding, now := 21000, tele := some (tele 194 (-80) 0) }
    (held.maintenance, held.wanted, held.demand, held.slack) = (true, .heat, 6, 480)
    ∧ (drifted.maintenance, drifted.wanted, drifted.eNeed) = (false, .heat, 72) := by decide

/-! ### Allocation -/

/-- A share of section 4.8, "Committed budgeting with an unconfirmed decrease". -/
def share (bay : Fin 32) (priority : Priority) (slack : Int) (demand held : Nat) : Share :=
  { bay := bay, priority := priority, slack := slack, demand := demand, held := held, feeder := 0, new := 0 }

def twoRounds (site feeder : Nat) (shares : List Share) : List (Nat × Nat) :=
  let one := runRound roundOne { site := site, feeders := #v[feeder, 0, 0, 0] } (rank shares)
  (runRound roundTwo one.1 one.2).2.map fun a => (a.bay.val, a.new)

theorem test_two_rounds :
    twoRounds 14 4 [share 2 .standard 400 12 40, share 5 .elevated 100 30 0, share 9 .standard 900 6 6]
      = [(5, 0), (2, 12), (9, 6)]
    ∧ twoRounds 42 32 [share 2 .standard 400 12 12, share 5 .elevated 90 30 0, share 9 .standard 900 6 6]
      = [(5, 30), (2, 12), (9, 6)]
    ∧ twoRounds 0 360 [share 4 .standard 500 40 40, share 8 .standard 100 20 0] = [(8, 0), (4, 40)] := by decide +kernel

/-- Section 4.8, "Requests collapsing into passes": requests during a pass set the mark, its publish starts one more. -/
theorem test_requests_collapse :
    let a := after .periodTimerExpiry night
    let b := after .allocateNow a
    a.pass.isSome ∧ a.periodTimer = 15 * 16000000 ∧ a.passMark = false
    ∧ b.passMark = true ∧ (after .publish b).pass.isSome ∧ (after .publish b).passMark = false
    ∧ (after .publish a).pass = none := by decide +kernel

/-! ### Budgets -/

/-- Section 5.6, the rows of 10,000, 10,020 and 10,055. -/
theorem test_headroom :
    let a := after (.reportLoad 380 3 [210, 160, 40]) depot
    let c := { a with softCurtail := true }
    let d := after .loadStaleTransition (after (.reportLoad 120 2 [70, 50]) depot)
    (siteHeadroom a, (List.finRange 4).map (feederHeadroom a)) = (320, [190, 190, 160, 0])
    ∧ siteHeadroom c = 0
    ∧ (siteHeadroom d, (List.finRange 4).map (feederHeadroom d)) = (300, [400, 350, 200, 0]) ∧ d.flags = 0x10 := by
  decide +kernel

/-- The ceiling is written once (R101, R102) and clamps the caps (R103 to R106). -/
theorem test_caps :
    payload (.setCeiling 0) State.reset = [0, 1] ∧ payload (.setCeiling 20001) State.reset = [0x4E, 0x20]
    ∧ code (.setCeiling 5) depot = .writeOnce
    ∧ payload (.setWorkingCap 801) depot = [0x03, 0x20] ∧ payload (.setFallbackCap 801) depot = [0x03, 0x20]
    ∧ payload (.setCurtailCap 20001) depot = [0x4E, 0x20] := by decide +kernel

/-- The decoding example of section 5.3, and the writes that give it. -/
theorem test_feeder_decoding :
    [0, 15, 16, 23, 24, 27, 28, 30, 31].map (feederOf depot.windows)
      = [some 0, some 0, some 1, some 1, some 1, some 1, some 2, some 2, none]
    ∧ payload (.setFeeder 3 40 255 20001) depot = [31, 31, 0x4E, 0x20] ∧ code (.setFeeder 4 0 0 0) depot = .badValue
    ∧ (payload .readBudget depot).length = 51 := by decide +kernel

/-! ### Bay link -/

/-- Section 6.12, rows 50,000 to 50,014: a confirmation, a renewal, three misses, the lapse. -/
theorem test_grant_through_lapse :
    let x := (onlineBay .heat 12 6 (tele 140 0 0)).offer .heat 20
    let y := x.echo 180 7 7
    let z := (y.offer .heat 8).echo 180 7 8
    x.pending.seq = 7 ∧ y.applied = { mode := .heat, steps := 20, seq := 7 } ∧ y.lapse = some 160000000
    ∧ z.applied.seq = 7 ∧ z.pending.seq = 8 ∧ z.lapse = some 160000000
    ∧ (z.drop 180).applied = { mode := .off, steps := 0, seq := 0 } ∧ (z.drop 180).lapse = none
    ∧ (z.drop 180).reversal = some { mode := .heat, left := 2880000000 } := by decide

/-- The third miss makes a bay SILENT (R136); SILENT is not selected by default, so its head does not trip. -/
theorem test_third_miss :
    let t := after (.replyWindowClose []) { polled with bays := (setBay polled 8 { bayAt polled 8 with misses := 2 }).bays }
    (bayAt t 8).link = .silent ∧ (bayAt t 8).misses = 3 ∧ t.flags = 0x08 ∧ t.exchange = none ∧ t.cycle = none
    ∧ (orderAt t 2).map (fun o => o.state) = some .active := by decide +kernel

/-- Section 7.6, 60,001 to 60,003: two arrivals above the limit trip the head on OVERDRAW. -/
theorem test_overdraw_trip :
    let t := after (.replyWindowClose (reply 5 0 148 2450 1)) polled
    let u := after (.replyWindowClose (reply 5 0 150 2600 1)) { t with exchange := polled.exchange, cycle := polled.cycle }
    (bayAt t 8).overdraw = 1 ∧ (orderAt t 2).map (fun o => o.state) = some .active
    ∧ (orderAt u 2).map (fun o => o.state) = some .tripped
    ∧ (orderAt u 2).map (fun o => o.trip.map fun r => (r.first, r.cabin)) = some (some (.overdraw, some 150))
    ∧ (bayAt u 8).pending = { mode := .off, steps := 0, seq := 6 } ∧ u.flags = 0x02
    ∧ code (.rearm ⟨2, 0⟩) u = .stillFaulted ∧ code (.rearm ⟨3, 0⟩) u = .notTripped
    ∧ code (.rearm ⟨2, 0⟩) (setBay u 8 { bayAt u 8 with tele := some (tele 132 0 0) }) = .ok := by decide +kernel

/-- An UNPLUGGED report closes the started head (R30) and adds energy first: 3,600 W for 30 s are 30 Wh (R52, R53). -/
theorem test_unplug :
    let t := after (.replyWindowClose (reply 5 1 120 3600 0)) { polled with clock := 40100 }
    (orderAt t 2).map (fun o => (o.state, o.energy)) = some (.closed, 30)
    ∧ (orderAt t 2).map (fun o => o.outcome.map fun r => (r.kind, r.reachedBand)) = some (some (.unplugged, false))
    ∧ queueAt t 8 = [] := by decide +kernel

/-- A cycle polls the enabled bays in turn (R124); a hold and a cycle in progress defer it (R123, R142). -/
theorem test_cycle :
    let t := after .cycleTimerExpiry running
    t.exchange = some { bay := 8, seqSent := 5, age := 0, opening := true } ∧ t.cycle = some 9 ∧ t.cycleTimer = 16000000
    ∧ (after .cycleTimerExpiry polled).deferred = true
    ∧ (after .linkResetHoldEnd { running with hold := some 0, deferred := true }).exchange.isSome
    ∧ (after .linkResetHoldEnd { running with hold := some 0 }).flags = 0x40 := by decide +kernel

/-- LINK_RESET (R139), ENABLE_BAYS (R143) and READ_BAY (R145). -/
theorem test_link_commands :
    let t := after .linkReset polled
    t.hold = some 32000000 ∧ t.exchange = none ∧ (bayAt t 8).link = .unseen ∧ (bayAt t 8).applied.seq = 0
    ∧ (bayAt t 8).reversal = some { mode := .heat, left := 2880000000 }
    ∧ (bayAt (after (.enableBays 0x80000000) running) 31).link = .unseen
    ∧ (bayAt (after (.enableBays 0x80000000) running) 8).link = .disabled
    ∧ payload (.readBay 8) running
      = [1, 2, 0, 1, 0, 0, 0x9C, 0x40, 1, 0, 0, 0, 0, 0, 0, 140, 0xFF, 0xB0, 60, 60, 0x08, 0x34, 0, 1, 20, 5, 1, 20, 5, 10, 0,
         0, 0, 0, 0] := by decide +kernel

/-- Lapse and reversal timers run out (R132, R167); a stopped timer has no such event. -/
theorem test_timer_events :
    (bayAt (after (.lapse 8) running) 8).applied.mode = .off
    ∧ bayAt (after (.reversalTimerExpiry 8) (after (.lapse 8) running)) 8
      = { bayAt running 8 with applied := { mode := .off, steps := 0, seq := 0 }, lapse := none }
    ∧ after (.lapse 9) running = running := by decide +kernel

/-! ### Protection -/

/-- An arrival pauses the running STANDARD heads and asks an ALLSTOP for their bays (R151, R152); the release asks a pass. -/
theorem test_curtailment :
    let t := after (.curtail 1) running
    payload (.curtail 1) running = [1, 0, 1]
    ∧ ([0, 2, 3].map fun i => (orderAt t i).map fun o => o.state)
      = [some (.paused .curtail), some (.paused .curtail), some .planned]
    ∧ t.allstop = none ∧ t.sending = some 0 ∧ (bayAt t 8).pending = { mode := .off, steps := 0, seq := 6 } ∧ t.flags = 0x20
    ∧ t.allstopFrame.take 6 = [0x3F, 0x03, 0, 0, 0x01, 0x08] ∧ (after .allstop t).sending = none
    ∧ (after (.curtail 0) t).passMark = true := by decide +kernel

/-- The CURT line is the other source (R148, R149). -/
theorem test_curt_line :
    (after (.curtLineChange true) running).flags = 0x20 ∧ (after (.curtLineChange true) running).lineState = true
    ∧ (after (.curtLineChange false) running).flags = 0 := by decide +kernel

/-- A level that has stood for 1 ms in this interval is seen, one that has not is not; a gap starts the count anew (R149). -/
theorem test_curt_filter :
    let s : State := { running with curt := { line := true, level := false, since := 15360 } }
    (tick s).lineState = true ∧ (tick s).flags = 0x20 ∧ (tick s).curt = { line := true, level := true, since := 0 }
    ∧ (tick { s with curt := { s.curt with since := 14720 } }).curt = s.curt
    ∧ (tick { s with curt := { s.curt with since := 14720 } }).lineState = false
    ∧ (pinEdges [.curt false, .curt true] s).curt.since = 0 ∧ (pinEdge (.curt true) s).curt = s.curt := by decide +kernel

/-! ### Resets -/

/-- What each reset keeps (R31, R32, R71, R101, R103, R147, R149). -/
theorem test_resets :
    let s := { running with ceiling := 800, profiles := [known] }
    (after (.powerOnReset false) s).ceiling = 0 ∧ (after (.powerOnReset false) s).profiles = []
    ∧ (after (.pinReset false) s).ceiling = 800 ∧ (after (.pinReset false) s).workingCap = 800
    ∧ (after (.pinReset true) s).flags = 0xA0 ∧ (after (.pinReset true) s).pass.isSome
    ∧ (after .softReset s).clock = 40000 ∧ (bayAt (after .softReset s) 8).link = .unseen
    ∧ orderAt (after .softReset s) 2 = none ∧ (after .softReset s).flags = 0x80 := by decide +kernel

/-! ### The lines at the pins -/

/-- The bits of 0x0F 0x00 0xE2, the SOFT_RESET of section 8.5, most significant first, and three left over (R171). -/
def softResetBits : List Bool :=
  [false, false, false, false, true, true, true, true, false, false, false, false, false, false, false, false,
   true, true, true, false, false, false, true, false, true, true, true]

/-- A transfer clocked in bit by bit is its row; seven bits are the short transfer (R171, R177). -/
theorem test_transfer_at_pins :
    (pinEdges (.csFall :: clocks softResetBits ++ [.csRise]) first).pending = [.softReset]
    ∧ (pinEdges (.csFall :: clocks (softResetBits.take 7) ++ [.csRise]) first).pending = [.shortTransfer]
    ∧ (pinEdges (.csFall :: clocks (softResetBits.take 16) ++ [.csRise]) first).pending = [.frameError [0x0F, 0x00]]
    ∧ pinEdges (clocks softResetBits) first = first := by decide +kernel

/-- MISO shows NONE, 0x00 0x00 0x41, bit by bit, and is high-impedance while CS_N is high (R171, R173). -/
theorem test_miso_at_pins :
    (List.range 25).map (fun n => misoLevel (pinEdges (.csFall :: clocks (List.replicate n false)) first))
      = (List.replicate 17 false ++ [true, false, false, false, false, false, true, false]).map some
    ∧ misoLevel first = none := by decide +kernel

/-- RESET_N low during a transfer: ATTN_N released, the line in break, no time passes but for the CURT filter, whose level is
sampled at the end (R149); CS_N still low then is ignored until it has risen (R141, R172, R201). -/
theorem test_held_in_reset :
    let s := pinEdges [.csFall, .sclkRise true, .resetFall] first
    let t := after (.pinReset false) { pinEdge .resetRise s with pending := [] }
    let asserted := { s with curt := { line := true, level := false, since := 15360 } }
    attnLine first = true ∧ attnLine s = false ∧ linkLevel s 0 = { de := true, tx := false } ∧ misoLevel s = none
    ∧ tick s = s ∧ (pinEdge .resetRise s).pending = [.pinReset false]
    ∧ (tick asserted).lineState = false ∧ (pinEdge .resetRise (tick asserted)).pending = [.pinReset true]
    ∧ t.pins.cs = .ignored ∧ t.rx = .empty ∧ attnLine t = true
    ∧ (pinEdges (clocks softResetBits ++ [.csRise]) t).pending = t.pending
    ∧ (pinEdges (clocks softResetBits ++ [.csRise]) t).pins.cs = .high := by decide +kernel

/-- RESET_N low while the power-on reset ends, and the other way round: the part is held until both have ended, each with a row
of its own (R172, R201). -/
theorem test_two_resets_at_pins :
    let taken (row : Instr) (s : State) : State := after row { s with pending := s.pending.tail }
    let s := pinEdges [.resetFall, .supplyOn, .supplyReady] first
    let t := taken (.powerOnReset false) s
    let u := pinEdges [.supplyOn, .resetFall, .resetRise] first
    s.pending = [.powerOnReset false] ∧ t.pins.held = true ∧ attnLine t = false ∧ pinEdge .csFall t ≠ t
    ∧ receiving (pinEdge .csFall t) = false ∧ (pinEdge .resetRise t).pending = [.pinReset false]
    ∧ attnLine (taken (.pinReset false) (pinEdge .resetRise t)) = true
    ∧ u.pending = [.pinReset false] ∧ attnLine (taken (.pinReset false) u) = false
    ∧ (pinEdge .supplyReady (taken (.pinReset false) u)).pending = [.powerOnReset false]
    ∧ (pinEdge .resetRise (pinEdge .supplyOn first)).pending = [] := by decide +kernel

/-- The first GRANT byte 0x08 on the line, start bit, bits least significant first, stop bit; then the driver is off from the
end of the sixth character (R117, R186). -/
theorem test_grant_on_the_line :
    let s := after .cycleTimerExpiry running
    ((List.range 10).map fun n => (linkLevel s (64 * n)).tx)
      = [false, false, false, false, true, false, false, false, false, true]
    ∧ linkLevel s 3839 = { de := true, tx := true } ∧ linkLevel s 3840 = { de := false, tx := true }
    ∧ receiverOpen s = false ∧ linkLevel running 0 = { de := false, tx := true } := by decide +kernel

/-- The receiver: 0x08 after a gap of two bits, 0x80 directly after it with a framing error, and an unfinished character. -/
theorem test_receiver :
    receiveLine ([true, true] ++ [false, false, false, false, true, false, false, false, false, true]
        ++ [false, false, false, false, false, false, false, false, true, false] ++ [true, false, true])
      = [.byte 0x08, .corrupt] := by decide +kernel

/-- The ALLSTOP of bays 3 and 8 on the line, its first byte 0x3F, to the end of its seventh character (R117, R189). -/
theorem test_allstop_on_the_line :
    let s := after (.curtail 1) running
    ((List.range 10).map fun n => (linkLevel s (64 * n)).tx)
      = [false, true, true, true, true, true, true, false, false, true]
    ∧ linkLevel s 4479 = { de := true, tx := true } ∧ linkLevel s 4480 = { de := false, tx := true }
    ∧ (tick { s with pass := none, sending := some 3840 }).sending = none
    ∧ (tick { s with pass := none, sending := some 3839 }).sending = some 4479 := by
  decide +kernel

/-- A request that finds an ALLSTOP being sent in a cycle waits, is joined by a third, and is sent as one frame of its own before
the next GRANT (R127). -/
theorem test_allstop_requests :
    let s : State := { running with cycle := some 3 }
    let one := requestAllstop 0x2 s
    let three := requestAllstop 0x8 (requestAllstop 0x4 one)
    one.sending = some 0 ∧ one.allstop = none ∧ three.allstop = some 0xC ∧ three.allstopFrame = one.allstopFrame
    ∧ (after .allstop three).sending = some 0 ∧ (after .allstop three).exchange = none
    ∧ ((after .allstop three).allstopFrame.take 6) = [0x3F, 0x03, 0, 0, 0, 0x0C]
    ∧ (after .allstop (after .allstop three)).exchange.map (fun x => x.bay) = some 8 := by decide +kernel

/-- An expiry of the period timer that falls together with an arrival, taken second: one pass runs now and one follows (R74). -/
theorem test_expiry_with_arrival :
    let s := takeEvent (curtLineChange true { running with periodTimer := 0 }) .period
    stillDue (curtLineChange true { running with periodTimer := 0 }) .period = true ∧ s.pass.isSome ∧ s.passMark = true := by
  decide +kernel

/-- Section 6.3, expiry and ALLSTOP request together: expiry first, the ALLSTOP goes before the cycle's first poll (R123);
request first, the cycle begins after it; after time has passed, the open exchange is closed first (R127). -/
theorem test_expiry_with_allstop :
    let first := after (.curtail 1) (after .cycleTimerExpiry running)
    let second := after .cycleTimerExpiry (after (.curtail 1) running)
    let late := after (.curtail 1) { after .cycleTimerExpiry running with
      exchange := some { bay := 8, seqSent := 5, age := 640, opening := true } }
    first.exchange = none ∧ first.cycle = some 0 ∧ first.sending = some 0
    ∧ (after .allstop first).exchange.map (fun x => (x.bay, x.seqSent)) = some (8, 6)
    ∧ second.exchange = none ∧ second.sending = some 0 ∧ (after .allstop second).exchange.isSome
    ∧ late.exchange.isSome ∧ late.allstop = some 0x108 := by decide +kernel

/-- The running night with a pass in flight. -/
def inFlight : State := startPass running

/-! ### Witnesses: states and operands that meet the hypotheses of the statements -/

/-- A state with one command waiting. -/
def holding (c : Instr) (s : State) : State := { s with pending := [c] }

theorem witness_StepRunsFrontCommand : ({ night with pending := [.status, .nop] } : State).pending = .status :: [.nop] := rfl

/-- Every timer at the last value that is still quiet. -/
def quiet : State := { polled with cycleTimer := 641, exchange := some { bay := 8, seqSent := 5, age := 67199, opening := false } }

theorem witness_IdleStepPassesTime : quiet.pending = [] ∧ Quiet quiet := by unfold Quiet; decide +kernel

/-- One event due, at its last moment: the cycle timer, and the bound of a pass. -/
theorem witness_IdleStepPassesTime_due :
    (∀ d, ComesDue { quiet with cycleTimer := 640 } d ↔ d = .cycleTimerExpiry)
    ∧ (∀ d, ComesDue { quiet with pass := some { snap := takeSnapshot running, age := 319360 } } d ↔ d = .publish)
    ∧ (pinEdge .resetFall quiet).pins.held = true := by
  refine and_assoc.1 ⟨?_, rfl⟩
  have lapse : ∀ b : Fin 32, ¬∃ n, quiet.bays[b].lapse = some n ∧ n ≤ 640 := by
    have h : ∀ b : Fin 32, ∀ n ∈ quiet.bays[b].lapse, ¬n ≤ 640 := by decide +kernel
    rintro b ⟨n, hn, le⟩; exact h b n hn le
  have rest : ∀ b : Fin 32, ¬∃ r, quiet.bays[b].reversal = some r ∧ r.left ≤ 640 := by
    have h : ∀ b : Fin 32, ∀ r ∈ quiet.bays[b].reversal, ¬r.left ≤ 640 := by decide +kernel
    rintro b ⟨n, hn, le⟩; exact h b n hn le
  constructor
  · intro d
    cases d
    case cycleTimerExpiry => exact iff_of_true (Nat.le_refl 640) rfl
    case curtLineChange level => exact iff_of_false (fun h => h.2.1 rfl) (by simp)
    case lapse b => exact iff_of_false (lapse b) (by simp)
    case reversalTimerExpiry b => exact iff_of_false (rest b) (by simp)
    case clockAdvance => exact iff_of_false (by unfold ComesDue; decide +kernel) (by simp)
    case periodTimerExpiry => exact iff_of_false (by unfold ComesDue; decide +kernel) (by simp)
    case allstop => exact iff_of_false (fun h => h.elim (fun ⟨_, e, _⟩ => nomatch e) fun e => e.2.1 rfl) (by simp)
    all_goals
      refine iff_of_false ?_ (by simp)
      first
        | exact id
        | (rintro ⟨_, h, -⟩; cases h; done)
        | (rintro ⟨-, x, h, le⟩; cases h; exact absurd le (by decide))
        | (rintro ⟨h, -⟩; exact absurd h (by decide))
  · intro d
    cases d
    case publish => exact iff_of_true ⟨_, rfl, Nat.le_refl 320000⟩ rfl
    case curtLineChange level => exact iff_of_false (fun h => h.2.1 rfl) (by simp)
    case lapse b => exact iff_of_false (lapse b) (by simp)
    case reversalTimerExpiry b => exact iff_of_false (rest b) (by simp)
    case clockAdvance => exact iff_of_false (by unfold ComesDue; decide +kernel) (by simp)
    case periodTimerExpiry => exact iff_of_false (by unfold ComesDue; decide +kernel) (by simp)
    case allstop => exact iff_of_false (fun h => h.elim (fun ⟨_, e, _⟩ => nomatch e) fun e => e.2.1 rfl) (by simp)
    case cycleTimerExpiry => exact iff_of_false (by unfold ComesDue; decide +kernel) (by simp)
    all_goals
      refine iff_of_false ?_ (by simp)
      first
        | exact id
        | (rintro ⟨_, h, -⟩; cases h; done)
        | (rintro ⟨-, x, h, le⟩; cases h; exact absurd le (by decide))
        | (rintro ⟨h, -⟩; exact absurd h (by decide))

/-- Two events due at once, and a pass in flight below its bound. -/
theorem witness_IdleStepPassesTime_several :
    (let s : State := { quiet with cycleTimer := 640, curt := { line := true, level := false, since := 15360 } }
     s.pins.held = false ∧ ComesDue s .cycleTimerExpiry ∧ ComesDue s (.curtLineChange true))
    ∧ inFlight.pending = [] ∧ inFlight.pass ≠ none ∧ ¬ComesDue inFlight .publish := by
  refine ⟨⟨rfl, Nat.le_refl 640, rfl, by decide, Nat.le_refl 16000⟩, rfl, by decide +kernel, ?_⟩
  rintro ⟨p, h, le⟩
  cases h
  exact absurd le (by decide)

theorem witness_FrameRoundTrip :
    (Instr.reportLoad 380 2 [210, 160]).wellFormed = true
    ∧ encodeFrame (.reportLoad 380 2 [210, 160]) = some (frameOf 0x35 [0x01, 0x7C, 2, 0x00, 0xD2, 0x00, 0xA0]) := by
  decide +kernel

theorem witness_AcceptedFramesAreEncodings : judgeFrame [0x0F, 0x00, 0xE2, 0x55] = some (.command .softReset) := by
  decide +kernel

/-- Three bytes with three bits left over, one byte with seven, and no byte. -/
theorem witness_AcceptedFramesAreEncodings_pins :
    first.pins.held = false ∧ first.pins.cs = .high ∧ AssembledAs softResetBits [0x0F, 0x00, 0xE2]
    ∧ judgeFrame [0x0F, 0x00, 0xE2] = some (.command .softReset)
    ∧ AssembledAs (softResetBits.take 15) [0x0F] ∧ AssembledAs (softResetBits.take 7) [] :=
  ⟨rfl, rfl, assembledAs_bits [0x0F, 0x00, 0xE2] [true, true, true] (by decide), by decide +kernel,
    assembledAs_bits [0x0F] (List.replicate 7 false) (by decide),
    assembledAs_bits [] (softResetBits.take 7) (by decide)⟩

theorem witness_FrameJudging :
    44 < (45 : Byte).toNat ∧ ([1] : List Byte).length < (1 : Byte).toNat + 1
    ∧ (List.replicate 44 (0 : Byte)).length = (44 : Byte).toNat ∧ (44 : Byte).toNat ≤ 44
    ∧ (0x42 : Byte) ≠ crc8 (0x00 :: 0 :: []) ∧ (0x41 : Byte) = crc8 (0x00 :: 0 :: [])
    ∧ (∀ row ∈ catalogue, row.1 ≠ 0x07) ∧ (∃ row ∈ catalogue, row.1 = 0x17)
    ∧ lengthAnswer 0x17 [3] = some .badValue ∧ lengthAnswer 0x17 [2, 0] = some .badLength ∧ lengthAnswer 0x17 [2, 0, 0] = none
    ∧ lengthAnswer 0x35 [0, 0, 5] = some .badValue ∧ lengthAnswer 0x35 [0, 0, 0] = none := by decide +kernel

theorem witness_NopAndShortTransfer :
    ([0] : List Byte) ≠ [] ∧ (List.replicate 44 (0 : Byte)) ≠ [] ∧ (List.replicate 44 (0 : Byte)).length ≤ 44
    ∧ (0x40 : Byte) ≠ 0x41 := by decide

theorem witness_ResponseFrameBytes :
    ({ depot with response := { code := .ok, payload := List.replicate 60 7 } } : State).response.payload.length ≤ 60
    ∧ depot.pins.held = false ∧ depot.pins.cs = .high ∧ depot.pins.cs ≠ .low
    ∧ (misoBytes depot 4)[(List.replicate 31 true).length / 8]? = some 0x00 := by decide +kernel

theorem witness_PortStaysSound :
    QueuesSound (holding (.findByBay 3) night) ∧ PortSound (holding (.findByBay 3) night)
    ∧ (∃ t, step (holding (.findByBay 3) night) = .next t)
    ∧ PortSound (pinEdges (.csFall :: clocks (softResetBits.take 12)) first)
    ∧ LineSound (holding (.curtLineChange true) night) ∧ ∃ t, step (holding (.curtLineChange true) night) = .next t :=
  ⟨queuesSound_of_ok (by decide +kernel), by unfold PortSound; decide +kernel, ⟨_, rfl⟩, by unfold PortSound; decide +kernel,
    by unfold LineSound; decide +kernel, _, rfl⟩

theorem witness_ClockChangesCloseExpiredOrders :
    QueuesSound night ∧ (∃ v : Word, Instr.setClock 40500 = .setClock v ∧ 40500 = v.toNat)
    ∧ orderAt night 0 = some (anOrder 3 40500 .holding true) ∧ orderAt night 2 = some (anOrder 8 41000 .active true)
    ∧ orderAt night 4 = none ∧ HeadOf night 3 0 ∧ departureAt night 0 ≤ 40500 ∧ (∀ i, HeadOf night 8 i → 40500 < departureAt night i) :=
  ⟨night_queues, ⟨40500, rfl, rfl⟩, by decide +kernel, by decide +kernel, by decide +kernel, by unfold HeadOf; decide +kernel,
    by decide +kernel, by unfold HeadOf; decide +kernel⟩

theorem witness_ClockChangesCloseExpiredOrders_none_expires :
    ∀ i o, orderAt night i = some o → o.state = .closed ∨ 40499 < o.departure := every_order (by decide +kernel)

theorem witness_ClockChangesCloseExpiredOrders_advance :
    QueuesSound { night with clock := 40499 } ∧ ({ night with clock := 40499 } : State).clock < 4294967295
    ∧ ({ depot with clock := 4294967295 } : State).clock = 4294967295 :=
  ⟨queuesSound_of_ok (by decide +kernel), by decide +kernel, rfl⟩

/-- A FRESH load record of 5 s. -/
def reported : State := { depot with load := { depot.load with state := .fresh, age := some 80000000 } }

theorem witness_TuningWritten :
    (∃ a, reported.load.state = .fresh ∧ reported.load.age = some a ∧ max 5 (min 300 (5 : Half).toNat) * 16000000 ≤ a)
    ∧ ¬∃ a, reported.load.state = .fresh ∧ reported.load.age = some a ∧ max 5 (min 300 (6 : Half).toNat) * 16000000 ≤ a := by
  refine ⟨⟨80000000, rfl, rfl, by decide⟩, ?_⟩
  rintro ⟨a, -, h, le⟩
  cases h
  exact absurd le (by decide)

theorem witness_OpenChecksInOrder : QueuesSound night := night_queues

/-- Behind the unstarted head of bay 9 by 900 s, ahead of it by 900 s, and on a bay with no order at 60 s from now. -/
theorem witness_OpenCreatesOrder :
    QueuesSound night ∧ OpenPasses night 9 0 45900 9 .standard 4 ∧ OpenPasses night 9 2 44100 9 .urgent 4
    ∧ OpenPasses night 31 1 40060 31 .elevated 4 := by
  refine ⟨night_queues, ?_, ?_, ?_⟩
  all_goals
    refine ⟨by decide, by decide, by decide +kernel, by decide +kernel, by decide +kernel, by decide +kernel, by decide +kernel,
      ?_, ?_⟩
    · rintro j o ⟨ho, hb, -⟩
      revert hb
      exact every_order (P := fun _ o => o.bay = _ → 900 ≤ distance o.departure _) (by decide +kernel) j o ho
    · intro j o hj ho
      revert hj
      unfold HeadOf
      exact every_order (P := fun j o => (queueAt night _).head? = some j → o.started = true ∨ o.state = .tripped → o.departure ≤ _)
        (by decide +kernel) j o ho

theorem witness_OpenCreatesOrder_leads :
    (∀ j o, LiveOrder night 9 j o → (44100 : Word).toNat < o.departure)
    ∧ ¬∀ j o, LiveOrder night 9 j o → (45900 : Word).toNat < o.departure := by
  constructor
  · rintro j o ⟨ho, hb, -⟩
    revert hb
    exact every_order (P := fun _ o => o.bay = 9 → (44100 : Word).toNat < o.departure) (by decide +kernel) j o ho
  · intro h
    exact absurd (h 3 (anOrder 9 45000 .planned false) ⟨by decide +kernel, rfl, by decide⟩) (by decide)

theorem night_profiles : ProfilesSound night := by unfold ProfilesSound ProfileSound; decide +kernel

/-- Alone on its bay, order 3 may take any departure of the window and any tag. -/
theorem witness_AmendWritesNamedFields :
    QueuesSound night ∧ AmendPasses night ⟨3, 0⟩ 0 0x1F 40060 2 9 3 (anOrder 9 45000 .planned false) := by
  refine ⟨night_queues, ⟨by decide, by decide +kernel, by decide +kernel⟩, by decide, by decide, by decide, by decide,
    fun _ => ⟨by decide +kernel, ?_⟩⟩
  have alone := every_order (s := night) (P := fun j q => q.bay = 9 → j = 3) (by decide +kernel)
  rintro (⟨j, q, n, ⟨hq, hb, -⟩, -⟩ | ⟨j, q, n, hj, hq, -⟩ | ⟨-, -, j, q, n, ⟨hq, hb, -⟩, -⟩)
  · exact n (alone j q hq hb)
  · have : (queueAt night 9).head? = some 3 := by decide +kernel
    exact n (Option.some.inj (hj.symm.trans this))
  · exact n (alone j q hq hb)

/-- Order 1 behind the started head of bay 3, moved to exactly 900 s after it; and an AMEND that names no departure. -/
theorem witness_AmendWritesNamedFields_spacing :
    AmendPasses night ⟨1, 0⟩ 0 0x01 41400 0 0 1 (anOrder 3 42000 .queued false)
    ∧ AmendPasses night ⟨2, 0⟩ 0 0x02 0 0 0 2 (anOrder 8 41000 .active true) := by
  refine ⟨⟨⟨by decide, by decide +kernel, by decide +kernel⟩, by decide, by decide, by decide, by decide,
    fun _ => ⟨by decide +kernel, ?_⟩⟩, ⟨by decide, by decide +kernel, by decide +kernel⟩, by decide, by decide, by decide, by decide,
    fun h => absurd h (by decide)⟩
  have others := every_order (s := night) (P := fun j q => q.bay = 3 → j ≠ 1 → q.departure = 40500) (by decide +kernel)
  rintro (⟨j, q, n, ⟨hq, hb, -⟩, d⟩ | ⟨j, q, n, hj, hq, -, d⟩ | ⟨h, -⟩)
  · rw [others j q hq hb n] at d; exact absurd d (by decide)
  · have : (queueAt night 3).head? = some 0 := by decide +kernel
    cases Option.some.inj (hj.symm.trans this)
    have h0 : orderAt night 0 = some (anOrder 3 40500 .holding true) := by decide +kernel
    cases Option.some.inj (hq.symm.trans h0)
    exact absurd d (by decide)
  · exact absurd h (by unfold HeadOf; decide +kernel)

theorem witness_ConsultationAtOpenAndAmend : QueuesSound night ∧ ProfilesSound night ∧ (0x1F : Byte).getLsbD 4 = true
    ∧ (9 : Word) ≠ (anOrder 9 45000 .planned false).tag :=
  ⟨night_queues, night_profiles, by decide, by decide⟩

theorem witness_AmendChecksInOrder : QueuesSound night := night_queues

theorem witness_HandleCommandChecks : Names night ⟨1, 0⟩ 1 (anOrder 3 42000 .queued false) :=
  ⟨by decide, by decide +kernel, by decide +kernel⟩

/-- A live order, and a CLOSED one of generation 255. -/
theorem witness_LockUnlockRetire :
    Names night ⟨1, 0⟩ 1 (anOrder 3 42000 .queued false) ∧ (anOrder 3 42000 .queued false).state ≠ .closed
    ∧ Names (setSlot evening 0 { slotAt evening 0 with gen := 255 }) ⟨0, 255⟩ 0 (anOrder 1 90000 .closed true)
    ∧ (anOrder 1 90000 .closed true).state = .closed :=
  ⟨⟨by decide, by decide +kernel, by decide +kernel⟩, by decide, ⟨by decide, by decide +kernel, by decide +kernel⟩, rfl⟩

/-- A head, an order behind it, and a locked one under FORCE. -/
theorem witness_CloseEndsTheOrder :
    QueuesSound night ∧ Names night ⟨0, 0⟩ 0 (anOrder 3 40500 .holding true) ∧ HeadOf night 3 0
    ∧ Names night ⟨1, 0⟩ 1 (anOrder 3 42000 .queued false) ∧ ¬HeadOf night 3 1
    ∧ QueuesSound (after (.lock ⟨0, 0⟩) night)
    ∧ Names (after (.lock ⟨0, 0⟩) night) ⟨0, 0⟩ 0 { anOrder 3 40500 .holding true with locked := true } ∧ (1 : Byte) ≠ 0 :=
  ⟨night_queues, ⟨by decide, by decide +kernel, by decide +kernel⟩, by unfold HeadOf; decide +kernel,
    ⟨by decide, by decide +kernel, by decide +kernel⟩, by unfold HeadOf; decide +kernel, queuesSound_of_ok (by decide +kernel),
    ⟨by decide, by decide +kernel, by decide +kernel⟩, by decide⟩

theorem witness_LookupReturnsTheParts : Names evening ⟨2, 0⟩ 2 (anOrder 1 90000 .closed true) :=
  ⟨by decide, by decide +kernel, by decide +kernel⟩

theorem witness_FindReturnsHandles :
    31 < (32 : Byte).toNat ∧ (31 : Fin 32).val = (31 : Byte).toNat ∧ 47 < (48 : Byte).toNat ∧ (47 : Byte).toNat ≤ 47
    ∧ 6 < (7 : Byte).toNat ∧ (6 : Byte).toNat ≤ 6 := by decide

theorem learner_profiles : ProfilesSound learner := by unfold ProfilesSound ProfileSound; decide +kernel

theorem witness_ProfileReadAnswer :
    ProfilesSound learner ∧ (∀ p ∈ learner.profiles, p.tag ≠ 9)
    ∧ learner.profiles = [{ known with tag := 5 }] ++ known :: [] ∧ known.tag = 0x00A1C442 :=
  ⟨learner_profiles, by decide +kernel, rfl, rfl⟩

/-- A full table: tags 1 to 64, the last the least recently used. -/
def fullTable (pinned : Bool) : State :=
  { depot with profiles := (List.range 64).map fun n => { known with tag := BitVec.ofNat 32 (n + 1), pinned := pinned } }

theorem witness_ProfilePresetWrites :
    ProfilesSound learner ∧ (∃ p ∈ learner.profiles, p.tag = 5)
    ∧ Creates learner (presetProfile 9 80 30 0) (presetProfile 9 80 30 0 :: learner.profiles) 0 :=
  ⟨learner_profiles, by decide +kernel, .inl ⟨by decide +kernel, rfl, rfl⟩⟩

theorem witness_ProfilePresetWrites_full :
    ProfilesSound (fullTable false) ∧ (∀ p ∈ (fullTable false).profiles, p.tag ≠ 99)
    ∧ Creates (fullTable false) (presetProfile 99 80 30 0)
        (presetProfile 99 80 30 0 :: (fullTable false).profiles.filter fun q => q.tag != (64 : Tag)) 64
    ∧ ProfilesSound (fullTable true) ∧ 64 ≤ (fullTable true).profiles.length ∧ NoVictim (fullTable true) := by
  have unused : ∀ tag, ¬Referenced (fullTable false) tag := by
    rintro tag ⟨i, o, ho, -⟩
    exact every_order (s := fullTable false) (P := fun _ _ => False) (by decide +kernel) i o ho
  refine ⟨by unfold ProfilesSound ProfileSound; decide +kernel, by decide +kernel, .inr ⟨by decide +kernel,
    { known with tag := 64 }, ⟨(List.range 63).map fun n => { known with tag := BitVec.ofNat 32 (n + 1) }, [], by decide +kernel, rfl,
      unused _, fun p hp => absurd hp (by simp)⟩, rfl, rfl⟩, by unfold ProfilesSound ProfileSound; decide +kernel,
    by decide +kernel, fun p hp => .inl ?_⟩
  revert p
  decide +kernel

theorem witness_ProfileDropRemoves :
    ProfilesSound learner ∧ (∃ p ∈ learner.profiles, p.tag = 5) ∧ ¬Referenced learner 5 ∧ Referenced learner 0x00A1C442 := by
  refine ⟨learner_profiles, by decide +kernel, ?_,
    ⟨0, { anOrder 12 30000 .active true with tag := 0x00A1C442, energy := 1480 }, by decide +kernel, by decide, rfl⟩⟩
  rintro ⟨i, o, ho, -, ht⟩
  exact every_order (s := learner) (P := fun _ o => o.tag ≠ 5) (by decide +kernel) i o ho ht

/-- 600 s active and 3.0 °C gained, the least that R66 takes; one second less takes no sample. -/
theorem witness_LearningPointUpdatesProfile :
    ProfilesSound learner
    ∧ orderAt learner 0 = some { anOrder 12 30000 .active true with tag := 0x00A1C442, energy := 1480 }
    ∧ (slotAt learner 0).learnMark = false ∧ known ∈ learner.profiles ∧ known.pinned = false
    ∧ 600 ≤ 20300 - 19700 ∧ ¬600 ≤ 20299 - 19700 ∧ 30 ≤ ((-30 : Int) - (-60)).natAbs ∧ 580 * (20300 - 19700) / 3600 < 1480 :=
  ⟨learner_profiles, by decide +kernel, by decide +kernel, by decide +kernel, rfl, by decide, by decide, by decide, by decide⟩

theorem witness_PassRequests : night.pass = none ∧ (after .allocateNow night).pass ≠ none :=
  ⟨rfl, by decide +kernel⟩

theorem witness_SnapshotHoldsTheMoment : running.pass = none ∧ QueuesSound running ∧ ProfilesSound running :=
  ⟨rfl, running_queues, by unfold ProfilesSound ProfileSound; decide +kernel⟩

theorem witness_FiguresAreExactAndInRange :
    coldMorning.tele = some (tele (-60) (-80) 0) ∧ (∀ t, coldMorning.tele = some t → TelemetrySound t)
    ∧ (160 ≤ coldMorning.target ∧ coldMorning.target ≤ 280) ∧ (3 ≤ coldMorning.band ∧ coldMorning.band ≤ 30)
    ∧ (10 ≤ coldMorning.kc ∧ coldMorning.kc ≤ 250) ∧ (5 ≤ coldMorning.u ∧ coldMorning.u ≤ 100)
    ∧ coldMorning.now < coldMorning.departure ∧ coldMorning.departure ≤ 4294967295
    ∧ (evaluate coldMorning).maintenance = false ∧ (evaluate coldMorning).wanted = .heat
    ∧ (evaluate coldMorning).loss < (evaluate coldMorning).mmax * 100 ∧ (evaluate coldMorning).mmax ≠ 0 := by
  refine ⟨rfl, ?_, by decide +kernel⟩
  rintro t h
  cases h
  unfold TelemetrySound
  decide

/-- A bay that cannot meet the loss, the edges of the counted capability (R36), a HOLDING order at the edge of its hysteresis,
one with and one without a maintenance demand (R45), a cabin in band, and no telemetry. -/
theorem witness_FiguresAreExactAndInRange_edges :
    (let e := evaluate { coldMorning with tele := some { tele (-60) (-80) 0 with heatCap := 5 } }
     e.wanted = .heat ∧ e.mmax * 100 ≤ e.loss)
    ∧ ([4, 5, 120, 121].map fun n =>
        (evaluate { coldMorning with tele := some { tele (-60) (-80) 0 with heatCap := n } }).mmax) = [0, 5, 120, 120]
    ∧ ({ coldMorning with tele := none } : EvalInput).tele = none
    ∧ 0 < (evaluate { coldMorning with state := .holding, tele := some (tele 195 (-80) 0) }).loss
    ∧ (evaluate { coldMorning with state := .holding, tele := some (tele 195 210 0) }).loss = 0
    ∧ (evaluate { coldMorning with state := .holding, tele := some (tele 195 (-80) 0) }).maintenance = true
    ∧ (evaluate { coldMorning with state := .holding, tele := some (tele 194 (-80) 0) }).maintenance = false
    ∧ (evaluate { coldMorning with tele := some (tele 200 (-80) 0) }).wanted = .inBand := by decide +kernel

theorem witness_DistributionStaysInBudget : (takeSnapshot running).heads.Pairwise fun x y => x.bay < y.bay := by decide +kernel

/-- Bay 8 still applies COOL while its head wants HEAT. -/
def reversed : State := setBay night 8 (onlineBay .cool 20 5 (tele 140 (-80) 2100))

theorem witness_ReversalGuardBars :
    (takeSnapshot reversed).heads.Pairwise (fun x y => x.bay < y.bay)
    ∧ ∃ r ∈ passResults (takeSnapshot reversed), r.reversing = true :=
  ⟨by decide +kernel, List.any_eq_true.1 (by decide +kernel)⟩

theorem inFlight_queues : QueuesSound inFlight := queuesSound_of_ok (by decide +kernel)

/-- The result of bay 8 applies. -/
theorem witness_PublishAppliesMatchingResults :
    QueuesSound inFlight ∧ inFlight.pass = some { snap := takeSnapshot running, age := 0 }
    ∧ (takeSnapshot running).heads.Pairwise (fun x y => x.bay < y.bay)
    ∧ ∃ r ∈ passResults (takeSnapshot running),
        (resultApplies inFlight r && r.head.slot == 2 && orderAt inFlight r.head.slot == some (anOrder 8 41000 .active true)) = true :=
  ⟨inFlight_queues, rfl, by decide +kernel, List.any_eq_true.1 (by decide +kernel)⟩

/-- With no headroom and no charge, the head of bay 8 is starved; a head closed meanwhile has no applied result. -/
def starving : State := startPass { setBay night 8 (onlineBay .off 0 0 (tele 140 (-80) 0)) with fallbackCap := 0 }

theorem witness_PublishAppliesMatchingResults_starved :
    QueuesSound starving
    ∧ ∃ r ∈ passResults (takeSnapshot { setBay night 8 (onlineBay .off 0 0 (tele 140 (-80) 0)) with fallbackCap := 0 }),
        (resultApplies starving r && r.starved) = true :=
  ⟨queuesSound_of_ok (by decide +kernel), List.any_eq_true.1 (by decide +kernel)⟩

theorem witness_PublishAppliesMatchingResults_discarded :
    QueuesSound (after (.close ⟨2, 0⟩ 0) inFlight)
    ∧ (passResults (takeSnapshot running)).all
        (fun r => r.head.bay != 8 || !resultApplies (after (.close ⟨2, 0⟩ 0) inFlight) r) = true :=
  ⟨queuesSound_of_ok (by decide +kernel), by decide +kernel⟩

/-- The learner of section 3.8 on an ONLINE bay at 20.0 °C, a pass in flight: its result is a learning point; a slot whose
learning mark is set has none. -/
def learning (marked : Bool) : State :=
  startPass (setSlot (setBay learner 12 { onlineBay .heat 20 5 (tele 200 (-80) 0) with
      stamp := some 20600, tele := some { tele 200 (-80) 0 with tag := 0x00A1C442 } }) 0
    { slotAt learner 0 with learnMark := marked })

theorem learning_queues (marked : Bool) : QueuesSound (learning marked) := by
  cases marked <;> exact queuesSound_of_ok (by decide +kernel)

theorem witness_PublishAppliesMatchingResults_learns :
    (∃ p, (learning false).pass = some p ∧ p.snap.heads.Pairwise (fun x y => x.bay < y.bay)
      ∧ ∃ r ∈ passResults p.snap, (resultApplies (learning false) r && r.head.state == .active && r.newState == .holding) = true)
    ∧ (slotAt (learning false) 0).learnMark = false ∧ (slotAt (learning true) 0).learnMark = true
    ∧ (slotAt (after .publish (learning false)) 0).learnMark = true
    ∧ (after .publish (learning false)).profiles.head?.map (fun p => (p.tag, p.samples)) = some (0x00A1C442, 5)
    ∧ (after .publish (learning true)).profiles = learner.profiles :=
  ⟨⟨_, rfl, by decide +kernel, List.any_eq_true.1 (by decide +kernel)⟩, by decide +kernel, by decide +kernel,
    by decide +kernel, by decide +kernel, by decide +kernel⟩

theorem witness_PendingGrantWrites :
    (onlineBay .heat 20 15 (tele 0 0 0)).pending.seq ≤ 15 ∧ (onlineBay .heat 20 15 (tele 0 0 0)).pending.steps ≠ 12
    ∧ ((onlineBay .heat 20 15 (tele 0 0 0)).offer .heat 12).pending.seq = 1
    ∧ ((onlineBay .off 0 0 (tele 0 0 0)).offer .heat 12).pending.seq = 1 := by decide

theorem witness_CeilingOnceAndCapsClamped : State.reset.ceiling = 0 ∧ depot.ceiling ≠ 0 := by decide +kernel

theorem witness_FeederWindowsAndDecoding : 3 < (4 : Byte).toNat ∧ (3 : Fin 4).val = (3 : Byte).toNat := by decide

theorem witness_LoadReportAndStaleTransition :
    depot.load.state = .stale ∧ reported.load.state = .fresh ∧ reported.load.age = some 80000000
    ∧ ({ reported with tuning := { depot.tuning with stale := 5 } } : State).tuning.stale * 16000000 ≤ 80000000
    ∧ 4 < (5 : Byte).toNat ∧ (4 : Byte).toNat ≤ 4 ∧ ([1, 2, 3] : List Half).length ≠ (4 : Byte).toNat
    ∧ ([1, 2, 3, 4] : List Half).length = (4 : Byte).toNat := by decide +kernel

theorem witness_EnableBaysSetsTheList :
    (0x80000000 : Word).getLsbD (31 : Fin 32).val = true ∧ running.bays[(31 : Fin 32)].enabled = false
    ∧ (0x80000000 : Word).getLsbD (8 : Fin 32).val = false ∧ running.bays[(8 : Fin 32)].enabled = true := by decide +kernel

theorem witness_HoldEndsWithDeferredCycle :
    running.hold = none ∧ State.reset.hold ≠ none ∧ State.reset.deferred = false
    ∧ ({ State.reset with deferred := true } : State).deferred = true := by decide +kernel

theorem witness_BayAnswer : 31 < (32 : Byte).toNat ∧ (31 : Fin 32).val = (31 : Byte).toNat := by decide

theorem witness_CycleTimerBeginsOrDefers :
    polled.cycle ≠ none ∧ State.reset.hold ≠ none ∧ running.hold = none ∧ running.cycle = none ∧ running.exchange = none
    ∧ running.pins.held = false ∧ (pinEdge .supplyOn running).pins.held = true
    ∧ polled.exchange = some { bay := 8, seqSent := 5, age := 0, opening := false } ∧ polled.hold = none
    ∧ running.sending = none ∧ (after (.curtail 1) running).sending = some 0 := by decide +kernel

/-- An ALLSTOP that waits, the line free, with and without a cycle. -/
theorem witness_AllstopIsSentOnFreeLine :
    running.allstop = none ∧ State.reset.hold ≠ none ∧ polled.exchange ≠ none
    ∧ ({ running with allstop := some 0x108 } : State).allstop = some 0x108 ∧ running.hold = none ∧ running.exchange = none
    ∧ running.sending = none ∧ running.cycle = none
    ∧ ({ running with sending := some 640, allstop := some 0x108, cycle := some 9 } : State).cycle = some 9 := by decide +kernel

theorem witness_TeleRoundTrip :
    (15 : Byte).toNat ≤ 15 ∧ (1 : Byte).toNat ≤ 1 ∧ (3 : Byte).toNat ≤ 3
    ∧ judgeReply 8 (reply 5 0 148 2450 1) = .valid 5 { tele 148 (-80) 2450 with hvac := .heating }
    ∧ (List.replicate 9 false).length < 10 := by decide +kernel

/-- A confirmation, a renewal, and neither. -/
theorem witness_ValidArrivalUpdatesTheBay :
    QueuesSound polled ∧ polled.exchange = some { bay := 8, seqSent := 5, age := 0, opening := false } ∧ polled.cycle = some 9
    ∧ judgeReply 8 (reply 5 0 148 2450 1) = .valid 5 { tele 148 (-80) 2450 with hvac := .heating }
    ∧ 5 = (bayAt polled 8).pending.seq ∧ 0 < (bayAt polled 8).pending.steps
    ∧ judgeReply 8 (reply 6 0 148 2450 1) = .valid 6 { tele 148 (-80) 2450 with hvac := .heating }
    ∧ ¬(6 = (bayAt polled 8).applied.seq ∧ 0 < (bayAt polled 8).applied.steps)
    ∧ ¬5 = (bayAt (writePending polled 8 .heat 8) 8).pending.seq ∧ 5 = (bayAt (writePending polled 8 .heat 8) 8).applied.seq :=
  ⟨polled_queues, rfl, rfl, by decide +kernel, by decide +kernel, by decide +kernel, by decide +kernel, by decide +kernel,
    by decide +kernel, by decide +kernel⟩

theorem witness_ValidArrivalReachesTheHead :
    HeadOf polled 8 2 ∧ orderAt polled 2 = some (anOrder 8 41000 .active true) ∧ QueuesSound polled
    ∧ judgeReply 8 (reply 5 1 120 3600 0) = .valid 5 { tele 120 (-80) 3600 with connector := .unplugged }
    ∧ queueAt (after (.close ⟨2, 0⟩ 0) polled) 8 = [] ∧ (after (.close ⟨2, 0⟩ 0) polled).exchange = polled.exchange :=
  ⟨by unfold HeadOf; decide +kernel, by decide +kernel, polled_queues, by decide +kernel, by decide +kernel, by decide +kernel⟩

/-- Bay 8 polled after two misses, with and without the SILENT cause selected. -/
def missing (silent : Bool) : State :=
  setBay { polled with tuning := { depot.tuning with selection := { depot.tuning.selection with silent := silent } } } 8
    { bayAt polled 8 with misses := 2 }

theorem witness_MissesCountToSilence :
    running.exchange = none ∧ QueuesSound (missing true) ∧ QueuesSound (missing false)
    ∧ (missing true).exchange = some { bay := 8, seqSent := 5, age := 0, opening := false } ∧ (missing true).cycle = some 9
    ∧ judgeReply 8 [] = .miss .missing ∧ (bayAt (missing true) 8).link = .online ∧ 2 ≤ (bayAt (missing true) 8).misses
    ∧ HeadOf (missing true) 8 2 ∧ orderAt (missing true) 2 = some (anOrder 8 41000 .active true)
    ∧ (missing true).tuning.selection.silent = true ∧ (missing false).tuning.selection.silent = false :=
  ⟨rfl, queuesSound_of_ok (by decide +kernel), queuesSound_of_ok (by decide +kernel), rfl, rfl, by decide, by decide +kernel,
    by decide +kernel, by unfold HeadOf; decide +kernel, by decide +kernel, rfl, rfl⟩

theorem witness_LapseAndReversalExpiry : (bayAt running 8).lapse ≠ none ∧ (bayAt running 9).lapse = none := by decide +kernel

theorem witness_CurtailmentArrivesAndReleases :
    QueuesSound running ∧ QueuesSound (after (.curtail 1) running) ∧ (after (.curtail 1) running).softCurtail = true :=
  ⟨running_queues, queuesSound_of_ok (by decide +kernel), by decide +kernel⟩

/-- Just after the expiry that began a cycle, and with that exchange one character old. -/
theorem witness_CurtailmentArrivesAndReleases_opening :
    QueuesSound (after .cycleTimerExpiry running) ∧ Opening (after .cycleTimerExpiry running)
    ∧ (after .cycleTimerExpiry running).hold = none ∧ ¬Opening (tick (after .cycleTimerExpiry running)) := by
  refine ⟨queuesSound_of_ok (by decide +kernel), ⟨{ bay := 8, seqSent := 5, age := 0, opening := true }, by decide +kernel, rfl, rfl⟩,
    by decide +kernel, ?_⟩
  rintro ⟨x, hx, -, ha⟩
  have h : (tick (after .cycleTimerExpiry running)).exchange.map (fun x => x.age) = some 640 := by decide +kernel
  rw [hx] at h
  simp [ha] at h

/-- A TRIPPED head, its recorded cause absent. -/
def tripped : State :=
  putOrder running 2 { anOrder 8 41000 .tripped true with
    trip := some { first := .overdraw, later := .empty, time := 39000, cabin := none } }

theorem witness_RearmTestsRecordedCauses :
    Names (setBay tripped 8 { bayAt running 8 with tele := some (tele 140 (-80) 300) }) ⟨2, 0⟩ 2
      { anOrder 8 41000 .tripped true with trip := some { first := .overdraw, later := .empty, time := 39000, cabin := none } }
    ∧ code (.rearm ⟨2, 0⟩) (setBay tripped 8 { bayAt running 8 with tele := some (tele 140 (-80) 300) }) = .ok
    ∧ code (.rearm ⟨2, 0⟩) (setBay tripped 8 { bayAt running 8 with tele := some (tele 140 (-80) 301) }) = .stillFaulted :=
  ⟨⟨by decide, by decide +kernel, by decide +kernel⟩, by decide +kernel, by decide +kernel⟩

theorem witness_ResetsLeaveTheirValues :
    (pinEdge .resetFall first).pins.held = true ∧ PortEdge .csRise ∧ first.pins.cs = .high
    ∧ (let t := after (.pinReset false) (pinEdges [.csFall, .resetFall, .resetRise] first)
       t.pins.held = false ∧ t.pins.cs = .ignored) :=
  ⟨rfl, .inr (.inl rfl), rfl, by decide +kernel⟩

/-! The invariants, on the running night with a pass in flight and a command waiting. -/

theorem witness_SettingsStayInRange :
    LimitsSound (holding (.setWorkingCap 9) inFlight) ∧ ProfilesSound (holding (.setWorkingCap 9) inFlight)
    ∧ ∃ t, step (holding (.setWorkingCap 9) inFlight) = .next t := by
  refine ⟨?_, by unfold ProfilesSound ProfileSound; decide +kernel, _, rfl⟩
  unfold LimitsSound CapsSound WindowSound LoadSound TuningSound
  decide +kernel

theorem inFlight_heads (c : Instr) : HeadsSound (holding c inFlight) := by
  have h : HeadsSound inFlight := by unfold HeadsSound; decide +kernel
  exact h

theorem witness_BayTableStaysSound :
    BaysSound (holding .cycleTimerExpiry inFlight) ∧ LinkSound (holding .cycleTimerExpiry inFlight)
    ∧ HeadsSound (holding .cycleTimerExpiry inFlight) ∧ ∃ t, step (holding .cycleTimerExpiry inFlight) = .next t := by
  refine ⟨?_, by unfold LinkSound; decide +kernel, inFlight_heads _, _, rfl⟩
  unfold BaysSound BaySound GrantSound TelemetrySound
  decide +kernel

theorem witness_OrderTableStaysSound :
    QueuesSound (holding (.setClock 41000) inFlight) ∧ OrdersSound (holding (.setClock 41000) inFlight)
    ∧ DeparturesAhead (holding (.setClock 41000) inFlight) ∧ ∃ t, step (holding (.setClock 41000) inFlight) = .next t := by
  refine ⟨queuesSound_of_ok (by decide +kernel), ⟨by unfold TuningSound; decide +kernel, ?_⟩, ?_, _, rfl⟩
  · unfold OrderSound; decide +kernel
  · unfold DeparturesAhead; decide +kernel

theorem witness_CommittedPowerStaysUnderCeiling :
    CommitSound (holding .publish inFlight) ∧ ∃ t, step (holding .publish inFlight) = .next t := by
  refine ⟨?_, _, rfl⟩
  unfold CommitSound
  decide +kernel

theorem inFlight_reversal (c : Instr) : ReversalSound (holding c inFlight) := by
  have h : ReversalSound inFlight := by unfold ReversalSound SeenBy; decide +kernel
  exact h

theorem witness_ReversalRestStaysSound :
    ReversalSound (holding .publish inFlight) ∧ HeadsSound (holding .publish inFlight)
    ∧ ∃ t, step (holding .publish inFlight) = .next t :=
  ⟨inFlight_reversal _, inFlight_heads _, _, rfl⟩

/-- A lapse takes HEAT away and starts the rest; a confirmation gives HEAT to a bay that was OFF. -/
theorem witness_HeatAndCoolAreSeparatedByRest :
    ReversalSound (holding (.lapse 8) inFlight) ∧ (∃ t, step (holding (.lapse 8) inFlight) = .next t)
    ∧ (bayAt inFlight 8).applied.mode ≠ .off ∧ (bayAt (after (.lapse 8) inFlight) 8).applied.mode = .off
    ∧ (let s := writePending (setBay polled 8 (onlineBay .off 0 5 (tele 140 (-80) 0))) 8 .heat 20
       (bayAt s 8).applied.mode = .off
       ∧ (bayAt (after (.replyWindowClose (reply 6 0 148 0 1)) { s with exchange := some { bay := 8, seqSent := 6, age := 0, opening := false } }) 8).applied.mode
          = .heat)
    ∧ IsReset .softReset ∧ IsReset (.pinReset true) ∧ IsReset (.frameError [0x0F, 0x00, 0xE2]) ∧ ¬IsReset .linkReset :=
  ⟨inFlight_reversal _, ⟨_, rfl⟩, by decide +kernel, by decide +kernel, by decide +kernel, .inr (.inl rfl),
    .inl ⟨true, .inr rfl⟩, .inr (.inr ⟨_, rfl, by decide +kernel⟩), by simp [IsReset]⟩

end Sys2Proof.Tests
end

section
/-! What the order table and the queues of a state are, read field by field, and what the head changes of R9 and the
leaving of a queue (R10, R27) do to them. -/

namespace Sys2Proof.OrderTable

open Sys2Proof.Machine Sys2Proof.Safety

/-! ### Reads of the order table that an update of another field leaves -/

@[simp] theorem orderAt_answer (c : RespCode) (p : List Byte) (s : State) (i : Fin 48) :
    orderAt (answer c p s) i = orderAt s i := rfl
@[simp] theorem orderAt_raise (f : EventFlag) (s : State) (i : Fin 48) : orderAt (raise f s) i = orderAt s i := rfl
@[simp] theorem orderAt_setQueue (s : State) (b : Fin 32) (q : List (Fin 48)) (i : Fin 48) :
    orderAt (setQueue s b q) i = orderAt s i := rfl
@[simp] theorem orderAt_setBay (s : State) (b : Fin 32) (x : Bay) (i : Fin 48) : orderAt (setBay s b x) i = orderAt s i := rfl
@[simp] theorem orderAt_writePending (s : State) (b : Fin 32) (m : Mode) (n : Nat) (i : Fin 48) :
    orderAt (writePending s b m n) i = orderAt s i := rfl
@[simp] theorem orderAt_zeroPending (s : State) (b : Fin 32) (i : Fin 48) : orderAt (zeroPending s b) i = orderAt s i := rfl

theorem slotAt_putOrder (s : State) (i j : Fin 48) (o : Order) :
    slotAt (putOrder s i o) j = if j = i then { slotAt s i with order := some o } else slotAt s j :=
  slotAt_setSlot s i j _

/-- A fold of updates, each leaving a reading of the state as it was, leaves it as it was. -/
theorem foldl_unchanged {α β : Type} (get : State → β) (f : State → α → State) (keep : ∀ s a, get (f s a) = get s)
    (l : List α) (s : State) : get (l.foldl f s) = get s :=
  foldl_keeps (fun t => get t = get s) f (fun t a h => (keep t a).trans h) l s rfl

/-! ### First place in a queue -/

/-- Whether a slot is first in a bay's queue. -/
def isHead (s : State) (b : Fin 32) (i : Fin 48) : Bool := decide ((queueAt s b).head? = some i)

theorem isHead_iff {s : State} {b : Fin 32} {i : Fin 48} : isHead s b i = true ↔ HeadOf s b i := by
  simp [isHead, HeadOf]

theorem isHead_congr {s t : State} {b : Fin 32} (h : queueAt t b = queueAt s b) (i : Fin 48) :
    isHead t b i = isHead s b i := by
  simp [isHead, h]

theorem isHead_eq_false {s : State} {b : Fin 32} {i : Fin 48} (h : i ∉ queueAt s b) : isHead s b i = false := by
  rw [Bool.eq_false_iff, ne_eq, isHead_iff]
  exact fun hd => h (List.mem_of_head? hd)

/-- A list without repetitions: what stands behind its first entry. -/
theorem mem_tail_iff {α : Type} {q : List α} (nodup : q.Nodup) (i : α) : i ∈ q.tail ↔ i ∈ q ∧ q.head? ≠ some i := by
  cases q with
  | nil => simp
  | cons a q =>
    have ha : a ∉ q := (List.nodup_cons.1 nodup).1
    simp only [List.tail_cons, List.mem_cons, List.head?_cons, ne_eq, Option.some.injEq]
    constructor
    · exact fun h => ⟨.inr h, fun e => ha (e ▸ h)⟩
    · rintro ⟨rfl | h, ne⟩
      · exact absurd rfl ne
      · exact h

/-! ### An order and its slot under a head change (R9) -/

/-- An order whose slot was, and is, first in its queue or not. -/
def reheadOrder (was is : Bool) (o : Order) : Order :=
  if was && !is then { o with state := .queued, flags := { o.flags with reversing := false } }
  else if !was && is then { o with state := .planned }
  else o

/-- The slot of such an order, with its change mark (R94). -/
def reheadSlot (was is : Bool) (x : Slot) : Slot :=
  { x with order := x.order.map (reheadOrder was is), changeMark := x.changeMark || (was != is) }

theorem reheaded_eq (s t : State) (b : Fin 32) (i : Fin 48) :
    reheaded s t b i = reheadOrder (isHead s b i) (isHead t b i) := by
  funext o
  simp [reheaded, reheadOrder, isHead]

@[simp] theorem reheadOrder_same (was : Bool) (o : Order) : reheadOrder was was o = o := by cases was <;> rfl

@[simp] theorem reheadSlot_same (was : Bool) (x : Slot) : reheadSlot was was x = x := by
  cases x with
  | mk gen learn change order => cases order <;> simp [reheadSlot]

@[simp] theorem reheadSlot_gen (was is : Bool) (x : Slot) : (reheadSlot was is x).gen = x.gen := rfl
@[simp] theorem reheadSlot_learnMark (was is : Bool) (x : Slot) : (reheadSlot was is x).learnMark = x.learnMark := rfl
@[simp] theorem reheadSlot_changeMark (was is : Bool) (x : Slot) :
    (reheadSlot was is x).changeMark = (x.changeMark || (was != is)) := rfl
@[simp] theorem reheadSlot_order (was is : Bool) (x : Slot) :
    (reheadSlot was is x).order = x.order.map (reheadOrder was is) := rfl

@[simp] theorem reheadOrder_bay (was is : Bool) (o : Order) : (reheadOrder was is o).bay = o.bay := by
  cases was <;> cases is <;> rfl
@[simp] theorem reheadOrder_departure (was is : Bool) (o : Order) : (reheadOrder was is o).departure = o.departure := by
  cases was <;> cases is <;> rfl
@[simp] theorem reheadOrder_started (was is : Bool) (o : Order) : (reheadOrder was is o).started = o.started := by
  cases was <;> cases is <;> rfl
@[simp] theorem reheadOrder_noProfile (was is : Bool) (o : Order) :
    (reheadOrder was is o).flags.noProfile = o.flags.noProfile := by
  cases was <;> cases is <;> rfl

/-- Each order of `t` is the one that `w` held in its slot, after a head change if it is live. -/
def Reheads (w t : State) : Prop :=
  ∀ i q, orderAt t i = some q → ∃ o was is, orderAt w i = some o ∧ (was = is ∨ o.state ≠ .closed) ∧ q = reheadOrder was is o

/-- Promotion: a QUEUED head becomes PLANNED, every other slot stays. -/
theorem slotAt_promoteHead {s : State} {b : Fin 32}
    (queued : ∀ i, HeadOf s b i → ∃ o, orderAt s i = some o ∧ o.state = .queued) (j : Fin 48) :
    slotAt (promoteHead s b) j = reheadSlot false (isHead s b j) (slotAt s j) := by
  cases hd : (queueAt s b).head? with
  | none => simp [promoteHead, headOrder, headSlot, isHead, hd]
  | some i =>
    obtain ⟨o, ho, hq⟩ := queued i hd
    have hslot : (slotAt s i).order = some o := ho
    simp only [promoteHead, headOrder, headSlot, hd, ho, Option.map_some, hq, if_true, slotAt_setSlot]
    by_cases e : j = i
    · subst e
      simp [isHead, hd, reheadSlot, reheadOrder, hslot]
    · simp [isHead, hd, e, Ne.symm e]

/-- Displacement: the order named becomes QUEUED, every other slot stays. -/
theorem slotAt_displace {s : State} {i : Fin 48} {o : Order} (ho : orderAt s i = some o) (j : Fin 48) :
    slotAt (displace s i) j = reheadSlot (decide (j = i)) false (slotAt s j) := by
  have hslot : (slotAt s i).order = some o := ho
  simp only [displace, ho, slotAt_setSlot]
  by_cases e : j = i
  · subst e
    simp [reheadSlot, reheadOrder, hslot]
  · simp [e]

@[simp] theorem queueAt_promoteHead (s : State) (b a : Fin 32) : queueAt (promoteHead s b) a = queueAt s a := by
  obtain ⟨x, h⟩ := promoteHead_writes s b; rw [h]; rfl
@[simp] theorem queueAt_displace (s : State) (i : Fin 48) (a : Fin 32) : queueAt (displace s i) a = queueAt s a := by
  obtain ⟨x, h⟩ := displace_writes s i; rw [h]; rfl
@[simp] theorem queueAt_rehead (s : State) (b : Fin 32) (old : Option (Fin 48)) (a : Fin 32) :
    queueAt (rehead s b old) a = queueAt s a := by
  obtain ⟨x, h⟩ := rehead_writes s b old; rw [h]; rfl
@[simp] theorem bayAt_promoteHead (s : State) (b a : Fin 32) : bayAt (promoteHead s b) a = bayAt s a := by
  obtain ⟨x, h⟩ := promoteHead_writes s b; rw [h]; rfl

/-- The head change after a queue has changed: the former head is displaced, a QUEUED new head promoted. -/
theorem slotAt_rehead {s : State} {b : Fin 32} {old : Option (Fin 48)} (held : ∀ i, old = some i → ∃ o, orderAt s i = some o)
    (queued : ∀ i, HeadOf s b i → old ≠ some i → ∃ o, orderAt s i = some o ∧ o.state = .queued) (j : Fin 48) :
    slotAt (rehead s b old) j = reheadSlot (decide (old = some j)) (isHead s b j) (slotAt s j) := by
  by_cases same : (queueAt s b).head? = old
  · simp [rehead, headSlot, same, isHead]
  · cases old with
    | none => simpa [rehead, headSlot, same] using slotAt_promoteHead (fun i hi => queued i hi (by simp)) j
    | some i =>
      obtain ⟨o, ho⟩ := held i rfl
      have moved (k : Fin 48) (hk : HeadOf s b k) : k ≠ i := fun e => same (by rw [← e]; exact hk)
      have queued' (k : Fin 48) (hk : HeadOf (displace s i) b k) : ∃ q, orderAt (displace s i) k = some q ∧ q.state = .queued := by
        have hk' : HeadOf s b k := by simpa [HeadOf] using hk
        obtain ⟨q, hq, st⟩ := queued k hk' fun e => moved k hk' (by simpa using e.symm)
        refine ⟨q, ?_, st⟩
        have hslot : (slotAt s k).order = some q := hq
        rw [orderAt, slotAt_displace ho]
        simpa [moved k hk'] using hslot
      simp only [rehead, headSlot, same, if_false, slotAt_promoteHead queued', slotAt_displace ho, isHead_congr (queueAt_displace s i b)]
      by_cases e : j = i
      · subst e
        simp [isHead, same]
      · simp [e, Ne.symm e]

/-! ### Leaving a queue (R10, R27) -/

/-- The queue of a bay without the orders gone. -/
def queueLeft (s : State) (b : Fin 32) (gone : List (Fin 48)) : List (Fin 48) := (queueAt s b).filter fun i => !gone.contains i

theorem mem_queueLeft {s : State} {b : Fin 32} {gone : List (Fin 48)} {i : Fin 48} :
    i ∈ queueLeft s b gone ↔ i ∈ queueAt s b ∧ i ∉ gone := by simp [queueLeft]

theorem leaveQueue_of_head_gone {s : State} {b : Fin 32} {h : Fin 48} {gone : List (Fin 48)} (hd : HeadOf s b h) (hg : h ∈ gone) :
    leaveQueue s b gone = promoteHead (zeroPending (setQueue s b (queueLeft s b gone)) b) b := by
  have hd' : (queueAt s b).head? = some h := hd
  simp [leaveQueue, queueLeft, hd', hg]

theorem leaveQueue_of_head_stays {s : State} {b : Fin 32} {gone : List (Fin 48)} (stays : ∀ h, HeadOf s b h → h ∉ gone) :
    leaveQueue s b gone = setQueue s b (queueLeft s b gone) := by
  cases hd : (queueAt s b).head? with
  | none => simp [leaveQueue, queueLeft, hd]
  | some h => simp [leaveQueue, queueLeft, hd, stays h hd]

theorem queueAt_leaveQueue (s : State) (b a : Fin 32) (gone : List (Fin 48)) :
    queueAt (leaveQueue s b gone) a = if a = b then queueLeft s b gone else queueAt s a := by
  by_cases stays : ∀ h, HeadOf s b h → h ∉ gone
  · rw [leaveQueue_of_head_stays stays, queueAt_setQueue]
  · push Not at stays
    obtain ⟨h, hd, hg⟩ := stays
    simp [leaveQueue_of_head_gone hd hg, queueAt_setQueue]

theorem bayAt_leaveQueue_of_head_gone {s : State} {b : Fin 32} {h : Fin 48} {gone : List (Fin 48)} (hd : HeadOf s b h)
    (hg : h ∈ gone) (a : Fin 32) :
    bayAt (leaveQueue s b gone) a = if a = b then (bayAt s b).offer .off 0 else bayAt s a := by
  simp [leaveQueue_of_head_gone hd hg, zeroPending, bayAt_writePending]

theorem bayAt_leaveQueue_of_head_stays {s : State} {b : Fin 32} {gone : List (Fin 48)} (stays : ∀ h, HeadOf s b h → h ∉ gone)
    (a : Fin 32) : bayAt (leaveQueue s b gone) a = bayAt s a := by
  rw [leaveQueue_of_head_stays stays, bayAt_setQueue]

/-- A head that stays keeps first place. -/
theorem head_queueLeft_of_head_stays {s : State} {b : Fin 32} {gone : List (Fin 48)} (stays : ∀ h, HeadOf s b h → h ∉ gone) :
    (queueLeft s b gone).head? = (queueAt s b).head? := by
  cases hq : queueAt s b with
  | nil => simp [queueLeft, hq]
  | cons h rest =>
    have hg : h ∉ gone := stays h (by simp [HeadOf, hq])
    simp [queueLeft, hq, hg]

/-- The orders left move up; those gone keep their records. -/
theorem slotAt_leaveQueue {s : State} {b : Fin 32} {gone : List (Fin 48)}
    (queued : ∀ i ∈ queueAt s b, ¬HeadOf s b i → i ∉ gone → ∃ o, orderAt s i = some o ∧ o.state = .queued) (j : Fin 48) :
    slotAt (leaveQueue s b gone) j
      = if j ∈ gone then slotAt s j
        else reheadSlot (isHead s b j) (isHead (leaveQueue s b gone) b j) (slotAt s j) := by
  have now : queueAt (leaveQueue s b gone) b = queueLeft s b gone := by simp [queueAt_leaveQueue]
  by_cases stays : ∀ h, HeadOf s b h → h ∉ gone
  · have head : isHead (leaveQueue s b gone) b j = isHead s b j := by
      simp [isHead, now, head_queueLeft_of_head_stays stays]
    rw [head, leaveQueue_of_head_stays stays]
    simp
  · push Not at stays
    obtain ⟨h, hd, hg⟩ := stays
    have hd' : (queueAt s b).head? = some h := hd
    have queued' (i : Fin 48) (hi : HeadOf (zeroPending (setQueue s b (queueLeft s b gone)) b) b i) :
        ∃ o, orderAt (zeroPending (setQueue s b (queueLeft s b gone)) b) i = some o ∧ o.state = .queued := by
      have mem : i ∈ queueAt (zeroPending (setQueue s b (queueLeft s b gone)) b) b := List.mem_of_head? hi
      simp only [queueAt_zeroPending, queueAt_setQueue_self, mem_queueLeft] at mem
      refine queued i mem.1 (fun hi' => mem.2 ?_) mem.2
      rwa [← Option.some.inj (hd'.symm.trans hi')]
    simp only [leaveQueue_of_head_gone hd hg, slotAt_promoteHead queued',
      isHead_congr (queueAt_promoteHead _ b b), slotAt_zeroPending, slotAt_setQueue]
    by_cases jg : j ∈ gone
    · rw [if_pos jg, isHead_eq_false (by simp [mem_queueLeft, jg]), reheadSlot_same]
    · have : h ≠ j := fun e => jg (e ▸ hg)
      have was : isHead s b j = false := by simp [isHead, hd', this]
      rw [if_neg jg, was]

/-! ### A sound queue (R7, R8) -/

/-- The form of one bay's queue, as `QueuesSound` asks it of every bay. -/
structure QueueSound (s : State) (b : Fin 32) : Prop where
  length : (queueAt s b).length ≤ 3
  mem : ∀ i, i ∈ queueAt s b ↔ ∃ o, LiveOrder s b i o
  apart : (queueAt s b).Pairwise fun i j => departureAt s i + 900 ≤ departureAt s j
  head : ∀ i o, HeadOf s b i → orderAt s i = some o → o.state ≠ .queued
  behind : ∀ i o, i ∈ queueAt s b → ¬HeadOf s b i → orderAt s i = some o → o.state = .queued ∧ o.started = false

theorem nodup_of_apart {dep : Fin 48 → Nat} {q : List (Fin 48)} (apart : q.Pairwise fun i j => dep i + 900 ≤ dep j) : q.Nodup :=
  apart.imp fun h e => by subst e; omega

theorem liveIn_iff (s : State) (b : Fin 32) (i : Fin 48) : LiveIn s b i ↔ ∃ o, LiveOrder s b i o := by
  simp only [LiveIn, LiveOrder, live_iff]; rfl

theorem queuesSound_iff (s : State) : QueuesSound s ↔ ∀ b, QueueSound s b := by
  refine forall_congr' fun b => ⟨fun ⟨hl, hm, ha, hh, ht⟩ => ?_, fun h => ?_⟩
  · refine ⟨hl, fun i => (hm i).trans (liveIn_iff s b i), ha, fun i o hi => hh i hi o, fun i o hq hn => ?_⟩
    exact ht i ((mem_tail_iff (nodup_of_apart ha) i).2 ⟨hq, hn⟩) o
  · refine ⟨h.length, fun i => (h.mem i).trans (liveIn_iff s b i).symm, h.apart, fun i hi o => h.head i o hi, fun i hi o => ?_⟩
    obtain ⟨hq, hn⟩ := (mem_tail_iff (nodup_of_apart h.apart) i).1 hi
    exact h.behind i o hq hn

/-- What stands in a sound queue is a live order of that bay. -/
theorem QueueSound.live {s : State} {b : Fin 32} (h : QueueSound s b) {i : Fin 48} (hi : i ∈ queueAt s b) :
    ∃ o, LiveOrder s b i o := (h.mem i).1 hi

theorem QueueSound.mem_of_live {s : State} {b : Fin 32} (h : QueueSound s b) {i : Fin 48} {o : Order} (ho : LiveOrder s b i o) :
    i ∈ queueAt s b := (h.mem i).2 ⟨o, ho⟩

/-- In sound queues a slot stands in the queue of its own order's bay only. -/
theorem bay_of_mem_queue {s : State} (h : QueuesSound s) {b : Fin 32} {i : Fin 48} {o : Order} (hi : i ∈ queueAt s b)
    (ho : orderAt s i = some o) : o.bay = b ∧ o.state ≠ .closed := by
  obtain ⟨q, hq, hb, hl⟩ := ((queuesSound_iff s).1 h b).live hi
  rw [ho] at hq
  cases hq
  exact ⟨hb, hl⟩

theorem departureAt_of_order {s : State} {i : Fin 48} {o : Order} (ho : orderAt s i = some o) : departureAt s i = o.departure := by
  simp [departureAt, ho]

/-! ### Closing the record of an order (R10, R11) -/

theorem closedOrder_eq (s : State) (o : Order) (kind : OutcomeKind) :
    closedOrder s o kind = closedAs s.clock ((bayAt s o.bay).tele.map (·.cabin)) kind o := by
  have within (c : Int) : (c - o.target).natAbs ≤ o.band ↔ o.target - o.band ≤ c ∧ c ≤ o.target + o.band := by omega
  cases hc : (bayAt s o.bay).tele <;> simp [closedOrder, closedAs, cabinAt, reachedBand, hc, within]

/-- Writing a record that keeps bay and head leaves what the queues are made of. -/
theorem isHead_putOrder (s : State) (i : Fin 48) (o : Order) (b : Fin 32) (j : Fin 48) :
    isHead (putOrder s i o) b j = isHead s b j := rfl

end Sys2Proof.OrderTable
end

section
/-! The handle commands (R20 to R23) and FIND (R24 to R26): their checks, what they write, and their payloads read back. -/

namespace Sys2Proof.OrderTable

open Sys2Proof.Machine Sys2Proof.Safety

/-! ### Handles (R5) -/

theorem names_unique {s : State} {h : WireHandle} {i j : Fin 48} {o q : Order} (hi : Names s h i o) (hj : Names s h j q) :
    i = j ∧ o = q := by
  have := ((resolve_iff s h i o).2 hi).symm.trans ((resolve_iff s h j q).2 hj)
  simpa using this

/-- A condition on the order that a handle names. -/
theorem exists_names_iff {s : State} {h : WireHandle} {i : Fin 48} {o : Order} (hn : Names s h i o) (P : Fin 48 → Order → Prop) :
    (∃ j q, Names s h j q ∧ P j q) ↔ P i o := by
  refine ⟨?_, fun hp => ⟨i, o, hn, hp⟩⟩
  rintro ⟨j, q, hq, hp⟩
  obtain ⟨rfl, rfl⟩ := names_unique hn hq
  exact hp

theorem not_flagByte (b : Byte) : (!flagByte b) = decide (b = 0) := by
  rw [flagByte, bne, Bool.not_not]
  exact beq_eq_decide b 0

theorem live_eq_false {o : Order} : o.live = false ↔ o.state = .closed := by simp [Order.live]

/-! ### The checks of the handle commands (R20 to R23) -/

/-- A command whose handle names no order, and which looks at the handle first (R5). -/
theorem judgedBy_noOrder {c : Instr} {s : State} {h : WireHandle} {rest : List (Prop × RespCode)} (none : resolve s h = none)
    (run : exec c s = .next (refuse .noOrder s)) : JudgedBy c s ((¬∃ i o, Names s h i o, .noOrder) :: rest) :=
  judgedBy_refusal run (firstOf_hit ((resolve_none s h).1 none))

theorem setLocked_checks {c : Instr} {locked : Bool} {h : WireHandle} {s : State} (run : exec c s = .next (setLocked locked h s)) :
    JudgedBy c s [(¬∃ i o, Names s h i o, .noOrder), (∃ i o, Names s h i o ∧ o.state = .closed, .closed)] := by
  cases hr : resolve s h with
  | none => exact judgedBy_noOrder hr (by simp [run, setLocked, hr])
  | some x =>
    obtain ⟨i, o⟩ := x
    have hn := (resolve_iff s h i o).1 hr
    have named : ¬¬∃ i o, Names s h i o := not_not_intro ⟨i, o, hn⟩
    by_cases hc : o.state = .closed
    · exact judgedBy_refusal (code := .closed) (by simp [run, setLocked, hr, Order.live, hc])
        (firstOf_miss named (firstOf_hit ⟨i, o, hn, hc⟩))
    · refine judgedBy_ok (by rw [run]; simp only [setLocked, hr, (live_iff o).2 hc]; rfl) (firstOf_miss named (firstOf_miss ?_ rfl))
      rwa [exists_names_iff hn fun _ o => o.state = .closed]

theorem close_checks (h : WireHandle) (force : Byte) (s : State) :
    JudgedBy (.close h force) s
      [(¬∃ i o, Names s h i o, .noOrder), (∃ i o, Names s h i o ∧ o.state = .closed, .closed),
       (∃ i o, Names s h i o ∧ o.locked = true ∧ force = 0, .locked)] := by
  have run : exec (.close h force) s = .next (closeCommand h force s) := rfl
  cases hr : resolve s h with
  | none => exact judgedBy_noOrder hr (by simp [run, closeCommand, hr])
  | some x =>
    obtain ⟨i, o⟩ := x
    have hn := (resolve_iff s h i o).1 hr
    have named : ¬¬∃ i o, Names s h i o := not_not_intro ⟨i, o, hn⟩
    by_cases hc : o.state = .closed
    · exact judgedBy_refusal (code := .closed) (by simp [run, closeCommand, hr, Order.live, hc])
        (firstOf_miss named (firstOf_hit ⟨i, o, hn, hc⟩))
    have open' : ¬∃ i o, Names s h i o ∧ o.state = .closed := by
      rwa [exists_names_iff hn fun _ o => o.state = .closed]
    have live : o.live = true := (live_iff o).2 hc
    by_cases hl : o.locked = true ∧ force = 0
    · have fail : (o.locked && !flagByte force) = true := by simpa [not_flagByte] using hl
      exact judgedBy_refusal (code := .locked) (by rw [run]; simp only [closeCommand, hr, live, fail]; rfl)
        (firstOf_miss named (firstOf_miss open' (firstOf_hit ⟨i, o, hn, hl⟩)))
    · have pass : (o.locked && !flagByte force) = false := by simpa [not_flagByte] using hl
      refine judgedBy_ok (by rw [run]; simp only [closeCommand, hr, live, pass]; rfl)
        (firstOf_miss named (firstOf_miss open' (firstOf_miss ?_ rfl)))
      rwa [exists_names_iff hn fun _ o => o.locked = true ∧ force = 0]

theorem retire_checks (h : WireHandle) (s : State) :
    JudgedBy (.retire h) s
      [(¬∃ i o, Names s h i o, .noOrder), (∃ i o, Names s h i o ∧ o.state ≠ .closed, .notClosed)] := by
  have run : exec (.retire h) s = .next (retireOrder h s) := rfl
  cases hr : resolve s h with
  | none => exact judgedBy_noOrder hr (by simp [run, retireOrder, hr])
  | some x =>
    obtain ⟨i, o⟩ := x
    have hn := (resolve_iff s h i o).1 hr
    have named : ¬¬∃ i o, Names s h i o := not_not_intro ⟨i, o, hn⟩
    by_cases hc : o.state = .closed
    · refine judgedBy_ok (by rw [run]; simp only [retireOrder, hr, live_eq_false.2 hc]; rfl)
        (firstOf_miss named (firstOf_miss ?_ rfl))
      rw [exists_names_iff hn fun _ o => o.state ≠ .closed]
      exact not_not_intro hc
    · exact judgedBy_refusal (code := .notClosed) (by simp [run, retireOrder, hr, (live_iff o).2 hc])
        (firstOf_miss named (firstOf_hit ⟨i, o, hn, hc⟩))

theorem lookup_checks (h : WireHandle) (part : Byte) (s : State) :
    JudgedBy (.lookup h part) s [(2 < part.toNat, .badValue), (¬∃ i o, Names s h i o, .noOrder)] := by
  have run : exec (.lookup h part) s = .next (lookupOrder h part s) := rfl
  by_cases hp : 2 < part.toNat
  · exact judgedBy_refusal (code := .badValue) (by simp [run, lookupOrder, hp]) (firstOf_hit hp)
  cases hr : resolve s h with
  | none =>
    exact judgedBy_refusal (code := .noOrder) (by simp [run, lookupOrder, hp, hr])
      (firstOf_miss hp (firstOf_hit ((resolve_none s h).1 hr)))
  | some x =>
    obtain ⟨i, o⟩ := x
    have named : ¬¬∃ i o, Names s h i o := not_not_intro ⟨i, o, (resolve_iff s h i o).1 hr⟩
    obtain ⟨p, hp'⟩ : ∃ p, lookupOrder h part s = answer .ok p s := by
      by_cases h0 : part = 0
      · exact ⟨identityBytes s i o, by simp [lookupOrder, hr, h0]⟩
      · by_cases h1 : part = 1
        · exact ⟨figuresBytes o, by simp [lookupOrder, hr, h1]⟩
        · exact ⟨historyBytes o, by simp only [lookupOrder, if_neg hp, hr, if_neg h0, if_neg h1]⟩
    exact judgedBy_ok (run.trans (congrArg _ hp')) (firstOf_miss hp (firstOf_miss named rfl))

/-- Settles O18: each command's checks in turn, and a handle resolves to at most one order. -/
theorem handleCommandChecks : Obligations.HandleCommandChecks := by
  intro h force part s
  exact ⟨setLocked_checks (locked := true) rfl, setLocked_checks (locked := false) rfl, close_checks h force s,
    retire_checks h s, lookup_checks h part s, fun _ _ _ _ => names_unique⟩

/-! ### LOCK, UNLOCK, RETIRE (R20, R22, R4) -/

theorem setLocked_of_live {s : State} {h : WireHandle} {i : Fin 48} {o : Order} (hn : Names s h i o) (hc : o.state ≠ .closed)
    (locked : Bool) : setLocked locked h s = answer .ok [] (putOrder s i { o with locked := locked }) := by
  simp [setLocked, (resolve_iff s h i o).2 hn, (live_iff o).2 hc]

theorem retireOrder_of_closed {s : State} {h : WireHandle} {i : Fin 48} {o : Order} (hn : Names s h i o) (hc : o.state = .closed) :
    retireOrder h s
      = answer .ok [] (setSlot s i { slotAt s i with gen := (slotAt s i).gen + 1, learnMark := false, order := none }) := by
  simp [retireOrder, (resolve_iff s h i o).2 hn, live_eq_false.2 hc]

/-- A handle of an emptied slot names no order. -/
theorem not_names_of_empty {t : State} {h : WireHandle} {i : Fin 48} (hs : h.slot.toNat = i.val) (empty : orderAt t i = none) :
    ¬∃ j q, Names t h j q := by
  rintro ⟨j, q, hj, -, ho⟩
  have : j = i := Fin.ext (hj.symm.trans hs)
  simp [this, empty] at ho

theorem byte_succ_toNat (g : Byte) : (g + 1).toNat = if g.toNat = 255 then 0 else g.toNat + 1 := by
  have := g.isLt
  rw [BitVec.toNat_add]
  split <;> simp <;> omega

/-- Settles O19: the one field LOCK and UNLOCK write, and the slot RETIRE empties. -/
theorem lockUnlockRetire : Obligations.LockUnlockRetire := by
  intro h s i o hn
  refine ⟨fun hc => ?_, fun hc => ?_⟩
  · exact ⟨⟨rfl, [], rfl, congrArg _ (setLocked_of_live hn hc true)⟩, ⟨rfl, [], rfl, congrArg _ (setLocked_of_live hn hc false)⟩⟩
  · refine ⟨_, _, congrArg _ (retireOrder_of_closed hn hc), rfl, byte_succ_toNat _, not_names_of_empty hn.1 ?_⟩
    simp [orderAt_setSlot]

/-! ### Reading a field of each kind off the front of a payload (R184) -/

theorem readFields_byte (b : Byte) (ws : List Nat) (q : List Byte) :
    readFields (1 :: ws) (b :: q) = (readFields ws q).map fun vs => b.toNat :: vs := by
  simpa using readFields_append (p := [b]) rfl ws q

@[simp] theorem toNat_byteOf (n : Nat) : (byteOf n).toNat = n % 256 := by simp [byteOf]

@[simp] theorem toNat_boolByte (b : Bool) : (boolByte b).toNat = b.toNat := by cases b <;> rfl

theorem readFields_bytes32 (w : Word) (ws : List Nat) (q : List Byte) :
    readFields (4 :: ws) (bytes32 w ++ q) = (readFields ws q).map fun vs => w.toNat :: vs := by
  rw [readFields_append (w := 4) (p := bytes32 w) rfl, beValue_bytes32]

theorem readFields_be16 (n : Nat) (ws : List Nat) (q : List Byte) :
    readFields (2 :: ws) (be16 n ++ q) = (readFields ws q).map fun vs => n % 65536 :: vs := by
  rw [readFields_append (w := 2) (p := be16 n) rfl, beValue_be16]

theorem readFields_be32 (n : Nat) (ws : List Nat) (q : List Byte) :
    readFields (4 :: ws) (be32 n ++ q) = (readFields ws q).map fun vs => n % 4294967296 :: vs := by
  rw [readFields_append (w := 4) (p := be32 n) rfl, beValue_be32]

theorem readFields_beInt16 (i : Int) (ws : List Nat) (q : List Byte) :
    readFields (2 :: ws) (beInt16 i ++ q) = (readFields ws q).map fun vs => twos 16 i % 65536 :: vs := by
  rw [readFields_append (w := 2) (p := beInt16 i) rfl, beValue_beInt16]

theorem readFields_beInt32 (i : Int) (ws : List Nat) (q : List Byte) :
    readFields (4 :: ws) (beInt32 i ++ q) = (readFields ws q).map fun vs => twos 32 i % 4294967296 :: vs := by
  rw [readFields_append (w := 4) (p := beInt32 i) rfl, beValue_beInt32]

theorem readFields_be16_last (n : Nat) : readFields [2] (be16 n) = some [n % 65536] := by
  rw [readFields_last (w := 2) (p := be16 n) rfl, beValue_be16]

theorem readFields_be32_last (n : Nat) : readFields [4] (be32 n) = some [n % 4294967296] := by
  rw [readFields_last (w := 4) (p := be32 n) rfl, beValue_be32]

theorem readFields_beInt16_last (i : Int) : readFields [2] (beInt16 i) = some [twos 16 i % 65536] := by
  rw [readFields_last (w := 2) (p := beInt16 i) rfl, beValue_beInt16]

theorem toNat_mod_byte (b : Byte) : b.toNat % 256 = b.toNat := Nat.mod_eq_of_lt b.isLt
theorem toNat_mod_word (w : Word) : w.toNat % 4294967296 = w.toNat := Nat.mod_eq_of_lt w.isLt
theorem bool_toNat_mod (b : Bool) : b.toNat % 256 = b.toNat := by cases b <;> rfl

/-- A payload of two groups of fields. -/
theorem readFields_groups {ws vs ns ms : List Nat} {p q : List Byte} (hws : ws.length = ns.length)
    (hp : readFields ws p = some (atWidths ws ns)) (hq : readFields vs q = some (atWidths vs ms)) :
    readFields (ws ++ vs) (p ++ q) = some (atWidths (ws ++ vs) (ns ++ ms)) := by
  rw [atWidths_append _ _ _ _ hws]
  exact readFields_join _ _ _ _ _ _ hp hq

/-! ### The parts of LOOKUP (R23, section 8.7) -/

/-- The values of an order's activation record as LOOKUP part 1 lists them, zeros behind presence 0 (R185). -/
def activationValues : Option Activation → List Nat
  | some a => [1, twos 16 a.cabin, a.loss, a.time, a.kc, a.u]
  | none => [0, 0, 0, 0, 0, 0]

/-- The values of the last figures in LOOKUP part 1. -/
def figureValues : Option Figures → List Nat
  | some f => [1, f.wanted.code, f.demand, f.eNeed, f.tNeed, twos 32 f.slack, f.startAt]
  | none => [0, 0, 0, 0, 0, 0, 0]

/-- The values of an optional temperature. -/
def cabinValues : Option Int → List Nat
  | some c => [1, twos 16 c]
  | none => [0, 0]

/-- The values of the trip record in LOOKUP part 2. -/
def tripValues : Option TripRecord → List Nat
  | some r => [1, r.first.code, r.later.code, r.time] ++ cabinValues r.cabin
  | none => [0, 0, 0, 0, 0, 0]

/-- The values of the outcome record in LOOKUP part 2. -/
def outcomeValues : Option OutcomeRecord → List Nat
  | some r => [1, r.kind.code, r.time] ++ cabinValues r.finalCabin ++ [r.energy, r.reachedBand.toNat]
  | none => [0, 0, 0, 0, 0, 0, 0]

theorem read_activation (x : Option Activation) :
    [1, 2, 2, 4, 1, 1].length = (activationValues x).length
      ∧ readFields [1, 2, 2, 4, 1, 1] (optPart 10 activationBytes x)
          = some (atWidths [1, 2, 2, 4, 1, 1] (activationValues x)) := by
  cases x with
  | none => exact ⟨rfl, rfl⟩
  | some a =>
    refine ⟨rfl, ?_⟩
    simp [optPart, activationBytes, activationValues, readFields_byte, readFields_be16, readFields_be32,
      readFields_beInt16]

theorem read_figures (x : Option Figures) :
    [1, 1, 1, 2, 4, 4, 4].length = (figureValues x).length
      ∧ readFields [1, 1, 1, 2, 4, 4, 4] (optPart 16 figureBytes x)
          = some (atWidths [1, 1, 1, 2, 4, 4, 4] (figureValues x)) := by
  cases x with
  | none => exact ⟨rfl, rfl⟩
  | some f =>
    refine ⟨rfl, ?_⟩
    simp [optPart, figureBytes, figureValues, readFields_byte, readFields_be16, readFields_be32,
      readFields_beInt32, readFields_be32_last]

theorem read_cabin (x : Option Int) :
    readFields [1, 2] (optPart 2 beInt16 x) = some (atWidths [1, 2] (cabinValues x)) := by
  cases x with
  | none => rfl
  | some c =>
    simp [optPart, cabinValues, readFields_byte, readFields_beInt16_last]

theorem length_cabinValues (x : Option Int) : (cabinValues x).length = 2 := by cases x <;> rfl

theorem read_trip (x : Option TripRecord) :
    [1, 1, 1, 4, 1, 2].length = (tripValues x).length
      ∧ readFields [1, 1, 1, 4, 1, 2] (optPart 9 tripBytes x) = some (atWidths [1, 1, 1, 4, 1, 2] (tripValues x)) := by
  cases x with
  | none => exact ⟨rfl, rfl⟩
  | some r =>
    refine ⟨by simp [tripValues, length_cabinValues], ?_⟩
    refine readFields_groups (ws := [1, 1, 1, 4]) (p := [1, byteOf r.first.code, byteOf r.later.code] ++ be32 r.time) rfl ?_
      (read_cabin r.cabin)
    simp [readFields_byte, readFields_be32_last]

theorem read_outcome (x : Option OutcomeRecord) :
    [1, 1, 4, 1, 2, 4, 1].length = (outcomeValues x).length
      ∧ readFields [1, 1, 4, 1, 2, 4, 1] (optPart 13 outcomeBytes x) = some (atWidths [1, 1, 4, 1, 2, 4, 1] (outcomeValues x)) := by
  cases x with
  | none => exact ⟨rfl, rfl⟩
  | some r =>
    refine ⟨by simp [outcomeValues, length_cabinValues], ?_⟩
    have start : readFields [1, 1, 4] ([1, byteOf r.kind.code] ++ be32 r.time)
        = some (atWidths [1, 1, 4] [1, r.kind.code, r.time]) := by
      simp [readFields_byte, readFields_be32_last]
    have finish : readFields [4, 1] (be32 r.energy ++ [boolByte r.reachedBand])
        = some (atWidths [4, 1] [r.energy, r.reachedBand.toNat]) := by
      simp [readFields_be32, readFields_byte, bool_toNat_mod]
    have whole := readFields_groups (by simp [length_cabinValues])
      (readFields_groups (ws := [1, 1, 4]) (ns := [1, r.kind.code, r.time]) rfl start (read_cabin r.finalCabin)) finish
    simpa [optPart, outcomeBytes, outcomeValues] using whole

theorem read_identity (s : State) (i : Fin 48) (o : Order) :
    readFields [1, 1, 1, 4, 4, 2, 1, 1, 1, 1, 1, 1, 1, 4, 2] (identityBytes s i o)
      = some (atWidths [1, 1, 1, 4, 4, 2, 1, 1, 1, 1, 1, 1, 1, 4, 2]
          [i.val, (slotAt s i).gen.toNat, o.bay.val, o.tag.toNat, o.departure, twos 16 o.target, o.band, o.priority.code,
           o.locked.toNat, o.state.code, o.state.reasonCode, o.started.toNat, o.flags.code, o.energy, o.remainder]) := by
  simp [identityBytes, handleBytes, readFields_byte, readFields_bytes32,
    readFields_be32, readFields_beInt16, readFields_be16_last, toNat_mod_byte, toNat_mod_word, bool_toNat_mod]

/-- What LOOKUP answers for the parts 0, 1 and 2. -/
theorem exec_lookup {s : State} {h : WireHandle} {i : Fin 48} {o : Order} (hn : Names s h i o) :
    exec (.lookup h 0) s = .next (answer .ok (identityBytes s i o) s)
      ∧ exec (.lookup h 1) s = .next (answer .ok (figuresBytes o) s)
      ∧ exec (.lookup h 2) s = .next (answer .ok (historyBytes o) s) := by
  have hr := (resolve_iff s h i o).2 hn
  refine ⟨?_, ?_, ?_⟩ <;> simp [exec, execLookup, lookupOrder, hr]

/-- The codes of the tables, each by evaluation over its enumeration. -/
theorem codesAsListed : CodesAsListed := by
  refine ⟨rfl, rfl, fun r => ⟨rfl, rfl⟩, rfl, rfl, rfl, rfl, rfl, rfl, rfl, rfl, ?_, ?_, rfl, rfl, rfl, rfl, rfl, rfl⟩
  · rintro ⟨_ | _, _ | _, _ | _, _ | _⟩ <;> decide
  · rintro ⟨_ | _, _ | _, _ | _, _ | _, _ | _⟩ <;> decide

/-- Settles O21: each part of LOOKUP read back group by group. -/
theorem lookupReturnsTheParts : Obligations.LookupReturnsTheParts := by
  refine ⟨codesAsListed, fun h s i o hn => ?_⟩
  obtain ⟨part0, part1, part2⟩ := exec_lookup hn
  obtain ⟨la, ra⟩ := read_activation o.activation
  obtain ⟨lf, rf⟩ := read_figures o.figures
  obtain ⟨lt, rt⟩ := read_trip o.trip
  obtain ⟨lo, ro⟩ := read_outcome o.outcome
  have figures : Answers (.lookup h 1) s s ([1, 2, 2, 4, 1, 1] ++ [1, 1, 1, 2, 4, 4, 4])
      (activationValues o.activation ++ figureValues o.figures) :=
    ⟨by simp only [List.length_append, la, lf], _, readFields_groups la ra rf, part1⟩
  have history : Answers (.lookup h 2) s s ([1, 1, 1, 4, 1, 2] ++ [1, 1, 4, 1, 2, 4, 1])
      (tripValues o.trip ++ outcomeValues o.outcome) :=
    ⟨by simp only [List.length_append, lt, lo], _, readFields_groups lt rt ro, part2⟩
  exact ⟨⟨rfl, _, read_identity s i o, part0⟩, figures, history⟩

/-! ### FIND (R24 to R26) -/

/-- The values of the handles of a list of slots. -/
def handleValues (s : State) (l : List (Fin 48)) : List Nat := l.flatMap fun i => [i.val, (slotAt s i).gen.toNat]

theorem length_handleValues (s : State) (l : List (Fin 48)) : (handleValues s l).length = 2 * l.length := by
  induction l with
  | nil => rfl
  | cons i l ih =>
    have : handleValues s (i :: l) = i.val :: (slotAt s i).gen.toNat :: handleValues s l := rfl
    simp only [this, List.length_cons, ih]
    omega

theorem read_handles (s : State) (l : List (Fin 48)) :
    readFields (List.replicate (2 * l.length) 1) (handlesBytes s l)
      = some (atWidths (List.replicate (2 * l.length) 1) (handleValues s l)) := by
  induction l with
  | nil => rfl
  | cons i l ih =>
    have values : handleValues s (i :: l) = i.val :: (slotAt s i).gen.toNat :: handleValues s l := rfl
    have bytes : handlesBytes s (i :: l) = byteOf i.val :: (slotAt s i).gen :: handlesBytes s l := rfl
    have widths : List.replicate (2 * (i :: l).length) 1 = 1 :: 1 :: List.replicate (2 * l.length) 1 := rfl
    rw [values, bytes, widths]
    simp [readFields_byte, ih, toNat_mod_byte]

/-- The slots that a FIND lists, in the words of R25 and R26. -/
theorem qualifying_eq {s : State} {start : Byte} {k : Fin 48} (hk : start.toNat = k.val) {p q : Order → Bool}
    (same : ∀ o, p o = q o) :
    qualifying s k p = (List.finRange 48).filter fun i => decide (start.toNat ≤ i.val) && (orderAt s i).any q := by
  refine List.filter_congr fun i _ => ?_
  rw [hk]
  cases orderAt s i with
  | none => rfl
  | some o => exact congrArg _ (same o)

/-- A page of at most 28 handles, read back. -/
theorem answers_page {c : Instr} {s : State} {l : List (Fin 48)} (run : exec c s = .next (answer .ok (pageBytes s l) s)) :
    Answers c s s ([1, 1] ++ List.replicate (2 * min 28 l.length) 1)
      ([min 28 l.length, (decide (28 < l.length)).toNat] ++ handleValues s (l.take 28)) := by
  have len : (l.take 28).length = min 28 l.length := List.length_take
  refine ⟨by simp [length_handleValues], _, ?_, run⟩
  refine readFields_groups (p := [byteOf (l.take 28).length, boolByte (decide (28 < l.length))]) rfl ?_ ?_
  · simp [len, readFields_byte, bool_toNat_mod]
  · rw [← len]
    exact read_handles s _

/-- Settles O22: the three forms of FIND, their lists read back handle by handle. -/
theorem findReturnsHandles : Obligations.FindReturnsHandles := by
  intro bay code start tag s
  refine ⟨fun hb => ?_, fun b hb => ?_, fun hs => ?_, fun hc => ?_, fun hs => ?_, fun hs hc => ?_⟩
  · simp [exec, execFindByBay, findByBay, (bayOfByte_none bay).2 hb]
  · have hb' := (bayOfByte_iff bay b).2 hb.symm
    refine ⟨by simp; omega, byteOf (queueAt s b).length :: handlesBytes s (queueAt s b), ?_, ?_⟩
    · rw [readFields_byte, read_handles]
      simp [handleValues]
    · simp [exec, execFindByBay, findByBay, hb']
  · have none := (slotOfByte_none start).2 hs
    exact ⟨by simp [exec, execFindByTag, findByTag, none], by simp [exec, execFindByState, findByState, none]⟩
  · cases hk : slotOfByte start <;> simp [exec, execFindByState, findByState, hk, hc]
  all_goals
    have hk := (slotOfByte_iff start ⟨start.toNat, by omega⟩).2 rfl
  · have run : exec (.findByTag tag start) s = .next (answer .ok (pageBytes s (qualifying s ⟨start.toNat, by omega⟩
        fun o => o.live && o.tag == tag)) s) := by simp [exec, execFindByTag, findByTag, hk]
    rw [qualifying_eq rfl (q := fun o => decide (o.state ≠ .closed) && decide (o.tag = tag))
      (fun o => by simp [Order.live, bne, beq_eq_decide])] at run
    exact answers_page run
  · have run : exec (.findByState code start) s = .next (answer .ok (pageBytes s (qualifying s ⟨start.toNat, by omega⟩
        fun o => decide (o.state.code = code.toNat))) s) := by
      simp [exec, execFindByState, findByState, hk, Nat.not_lt.2 hc]
    rw [qualifying_eq rfl fun _ => rfl] at run
    exact answers_page run

end Sys2Proof.OrderTable
end

section
/-! Orders leaving their queues: CLOSE (R21) and departure expiry (R27, R28). -/

namespace Sys2Proof.OrderTable

open Sys2Proof.Machine Sys2Proof.Safety

/-! ### The orders gone leave the queues of several bays -/

/-- `t` is `s` with the orders of `gone` out of their queues: each bay whose head is gone has its pending grant OFF/0 and its
earliest order left promoted (R10, R27). The records of the orders gone are not touched. -/
structure Left (gone : List (Fin 48)) (s t : State) : Prop where
  queue : ∀ b, queueAt t b = queueLeft s b gone
  slotGone : ∀ i ∈ gone, slotAt t i = slotAt s i
  slotEmpty : ∀ i, orderAt s i = none → slotAt t i = slotAt s i
  slotStays : ∀ i o, i ∉ gone → orderAt s i = some o →
    slotAt t i = reheadSlot (isHead s o.bay i) (isHead t o.bay i) (slotAt s i)
  bayGone : ∀ b h, HeadOf s b h → h ∈ gone → bayAt t b = (bayAt s b).offer .off 0
  bayStays : ∀ b, (∀ h, HeadOf s b h → h ∉ gone) → bayAt t b = bayAt s b

/-- What `Left` asks of the queues before: each lists orders of its own bay, and behind its head those that stay are QUEUED. -/
structure Leaving (gone : List (Fin 48)) (s : State) : Prop where
  own : ∀ b i, i ∈ queueAt s b → ∃ o, orderAt s i = some o ∧ o.bay = b
  queued : ∀ b i o, i ∈ queueAt s b → ¬HeadOf s b i → i ∉ gone → orderAt s i = some o → o.state = .queued

section
variable {gone : List (Fin 48)} {s : State}

/-- One bay's step, for a slot that stays. -/
theorem Leaving.slot (h : Leaving gone s) (b : Fin 32) {i : Fin 48} (hi : i ∉ gone) :
    slotAt (leaveQueue s b gone) i = reheadSlot (isHead s b i) (isHead (leaveQueue s b gone) b i) (slotAt s i) := by
  rw [slotAt_leaveQueue, if_neg hi]
  intro j hj hn hg
  obtain ⟨o, ho, -⟩ := h.own b j hj
  exact ⟨o, ho, h.queued b j o hj hn hg ho⟩

theorem Leaving.slot_gone (h : Leaving gone s) (b : Fin 32) {i : Fin 48} (hi : i ∈ gone) :
    slotAt (leaveQueue s b gone) i = slotAt s i := by
  rw [slotAt_leaveQueue, if_pos hi]
  intro j hj hn hg
  obtain ⟨o, ho, -⟩ := h.own b j hj
  exact ⟨o, ho, h.queued b j o hj hn hg ho⟩

theorem mem_leaveQueue {b a : Fin 32} {i : Fin 48} (hi : i ∈ queueAt (leaveQueue s b gone) a) : i ∈ queueAt s a := by
  rw [queueAt_leaveQueue] at hi
  split at hi
  · next e => exact e ▸ (mem_queueLeft.1 hi).1
  · exact hi

/-- A slot outside a bay's queue is not touched by that bay's step. -/
theorem Leaving.slot_outside (h : Leaving gone s) {b : Fin 32} {i : Fin 48} (hi : i ∉ queueAt s b) :
    slotAt (leaveQueue s b gone) i = slotAt s i := by
  by_cases hg : i ∈ gone
  · exact h.slot_gone b hg
  · rw [h.slot b hg, isHead_eq_false hi, isHead_eq_false fun m => hi (mem_leaveQueue m), reheadSlot_same]

theorem Leaving.not_mem_of_empty (h : Leaving gone s) {i : Fin 48} (empty : orderAt s i = none) (b : Fin 32) : i ∉ queueAt s b :=
  fun hi => by obtain ⟨o, ho, -⟩ := h.own b i hi; simp [ho] at empty

theorem Leaving.bay_eq (h : Leaving gone s) {b : Fin 32} {i : Fin 48} {o : Order} (hi : i ∈ queueAt s b)
    (ho : orderAt s i = some o) : o.bay = b := by
  obtain ⟨q, hq, hb⟩ := h.own b i hi
  rw [ho] at hq
  exact Option.some.inj hq ▸ hb

/-- The order in a slot keeps its bay. -/
theorem Leaving.order_after (h : Leaving gone s) (b : Fin 32) {i : Fin 48} {o : Order} (ho : orderAt s i = some o) :
    ∃ q, orderAt (leaveQueue s b gone) i = some q ∧ q.bay = o.bay := by
  have ho' : (slotAt s i).order = some o := ho
  by_cases hg : i ∈ gone
  · exact ⟨o, by rw [orderAt, h.slot_gone b hg, ho'], rfl⟩
  · exact ⟨_, by rw [orderAt, h.slot b hg, reheadSlot_order, ho', Option.map_some], reheadOrder_bay _ _ o⟩

theorem headOf_leaveQueue_of_head_stays {b : Fin 32} {i : Fin 48} (hi : HeadOf s b i) (hg : i ∉ gone) :
    HeadOf (leaveQueue s b gone) b i := by
  have stays (h : Fin 48) (hh : HeadOf s b h) : h ∉ gone := by
    have : i = h := Option.some.inj (hi.symm.trans hh)
    exact this ▸ hg
  rw [leaveQueue_of_head_stays stays, HeadOf, queueAt_setQueue_self, head_queueLeft_of_head_stays stays]
  exact hi

/-- One bay's step leaves the form that the next bay's step needs. -/
theorem Leaving.leaveQueue (h : Leaving gone s) (b : Fin 32) : Leaving gone (leaveQueue s b gone) := by
  refine ⟨fun a i hi => ?_, fun a i o hi hn hg ho => ?_⟩
  · obtain ⟨o, ho, rfl⟩ := h.own a i (mem_leaveQueue hi)
    exact h.order_after b ho
  · have hi' := mem_leaveQueue hi
    obtain ⟨q, hq, rfl⟩ := h.own a i hi'
    have notHead : ¬HeadOf s q.bay i := by
      by_cases e : q.bay = b
      · exact fun hh => hn (e ▸ headOf_leaveQueue_of_head_stays (e ▸ hh) hg)
      · simpa [HeadOf, queueAt_leaveQueue, e] using hn
    have same : slotAt (Machine.leaveQueue s b gone) i = slotAt s i := by
      by_cases e : q.bay = b
      · subst e
        rw [h.slot q.bay hg, Bool.eq_false_iff.2 (isHead_iff.not.2 notHead), Bool.eq_false_iff.2 (isHead_iff.not.2 hn),
          reheadSlot_same]
      · exact h.slot_outside fun m => e (h.bay_eq m hq)
    rw [orderAt, same] at ho
    exact h.queued q.bay i o hi' notHead hg ho

theorem bayAt_leaveQueue_ne (s : State) {a b : Fin 32} (gone : List (Fin 48)) (ne : a ≠ b) :
    bayAt (Machine.leaveQueue s b gone) a = bayAt s a := by
  by_cases stays : ∀ h, HeadOf s b h → h ∉ gone
  · exact bayAt_leaveQueue_of_head_stays stays a
  · push Not at stays
    obtain ⟨h, hd, hg⟩ := stays
    rw [bayAt_leaveQueue_of_head_gone hd hg, if_neg ne]

/-- After a bay's step no order gone stands in its queue. -/
theorem head_leaveQueue_stays (s : State) (b : Fin 32) (gone : List (Fin 48)) :
    ∀ h, HeadOf (Machine.leaveQueue s b gone) b h → h ∉ gone := by
  intro h hh
  have : h ∈ queueAt (Machine.leaveQueue s b gone) b := List.mem_of_head? hh
  rw [queueAt_leaveQueue, if_pos rfl] at this
  exact (mem_queueLeft.1 this).2

theorem queueLeft_leaveQueue (s : State) (b a : Fin 32) (gone : List (Fin 48)) :
    queueLeft (Machine.leaveQueue s b gone) a gone = queueLeft s a gone := by
  rw [queueLeft, queueAt_leaveQueue]
  split
  · next e => subst e; simp [queueLeft]
  · rfl

/-- With no order gone in any queue nothing is left to do. -/
theorem Left.refl (none : ∀ b i, i ∈ queueAt s b → i ∉ gone) : Left gone s s := by
  refine ⟨fun b => ?_, fun _ _ => rfl, fun _ _ => rfl, fun _ _ _ _ => (reheadSlot_same _ _).symm, fun b i hi hg => ?_,
    fun _ _ => rfl⟩
  · exact (List.filter_eq_self.2 fun i hi => by simpa using none b i hi).symm
  · exact absurd hg (none b i (List.mem_of_head? hi))

/-- A bay's step first, then the rest. -/
theorem Left.after_leaveQueue {t : State} (h : Leaving gone s) (b : Fin 32) (rest : Left gone (Machine.leaveQueue s b gone) t) :
    Left gone s t := by
  have queueB : queueAt t b = queueAt (Machine.leaveQueue s b gone) b := by
    rw [rest.queue, queueLeft_leaveQueue, queueAt_leaveQueue, if_pos rfl]
  have headOther {a : Fin 32} (ne : a ≠ b) (i : Fin 48) : HeadOf (Machine.leaveQueue s b gone) a i ↔ HeadOf s a i := by
    rw [HeadOf, HeadOf, queueAt_leaveQueue, if_neg ne]
  refine ⟨fun a => ?_, fun i hi => ?_, fun i empty => ?_, fun i o hg ho => ?_, fun a i hi hg => ?_, fun a stays => ?_⟩
  · rw [rest.queue, queueLeft_leaveQueue]
  · rw [rest.slotGone i hi, h.slot_gone b hi]
  · have same := h.slot_outside (h.not_mem_of_empty empty b)
    rw [rest.slotEmpty i (by rw [orderAt, same]; exact empty), same]
  · obtain ⟨q, hq, hb⟩ := h.order_after b ho
    rw [rest.slotStays i q hg hq, hb]
    by_cases e : o.bay = b
    · rw [e, isHead_congr queueB, reheadSlot_same, h.slot b hg]
    · rw [h.slot_outside fun m => e (h.bay_eq m ho), isHead_congr (s := s) (by rw [queueAt_leaveQueue, if_neg e])]
  · by_cases e : a = b
    · subst e
      rw [rest.bayStays a (head_leaveQueue_stays s a gone), bayAt_leaveQueue_of_head_gone hi hg, if_pos rfl]
    · rw [rest.bayGone a i ((headOther e i).2 hi) hg, bayAt_leaveQueue_ne s gone e]
  · by_cases e : a = b
    · subst e
      rw [rest.bayStays a (head_leaveQueue_stays s a gone), bayAt_leaveQueue_of_head_stays stays]
    · rw [rest.bayStays a fun i hi => stays i ((headOther e i).1 hi), bayAt_leaveQueue_ne s gone e]

/-- The steps of several bays, that cover every queue in which an order gone stands. -/
theorem left_foldl (l : List (Fin 32)) (h : Leaving gone s) (cover : ∀ b i, b ∉ l → i ∈ queueAt s b → i ∉ gone) :
    Left gone s (l.foldl (fun t b => Machine.leaveQueue t b gone) s) := by
  induction l generalizing s with
  | nil => exact Left.refl fun b i => cover b i List.not_mem_nil
  | cons b l ih =>
    refine Left.after_leaveQueue h b (ih (h.leaveQueue b) fun a i ha hi => ?_)
    by_cases e : a = b
    · subst e
      rw [queueAt_leaveQueue, if_pos rfl] at hi
      exact (mem_queueLeft.1 hi).2
    · exact cover a i (by simp [e, ha]) (mem_leaveQueue hi)

end

/-- The records of the orders of `gone` written as closed, each in its slot, all else as it was (steps 1 and 2 of R10). -/
structure RecordsClosed (gone : List (Fin 48)) (s w : State) : Prop where
  queue : ∀ b, queueAt w b = queueAt s b
  closed : ∀ i ∈ gone, ∃ o c, orderAt s i = some o ∧ orderAt w i = some c ∧ c.bay = o.bay ∧ c.state = .closed
  stays : ∀ i, i ∉ gone → orderAt w i = orderAt s i

theorem RecordsClosed.leaving {gone : List (Fin 48)} {s w : State} (written : RecordsClosed gone s w) (h : QueuesSound s) :
    Leaving gone w := by
  refine ⟨fun b i hi => ?_, fun b i o hi hn hg ho => ?_⟩
  · rw [written.queue] at hi
    obtain ⟨o, ho, hb, -⟩ := ((queuesSound_iff s).1 h b).live hi
    by_cases hg : i ∈ gone
    · obtain ⟨q, c, hq, hc, same, -⟩ := written.closed i hg
      rw [ho] at hq
      cases hq
      exact ⟨c, hc, same.trans hb⟩
    · exact ⟨o, (written.stays i hg).trans ho, hb⟩
  · rw [written.queue] at hi
    rw [HeadOf, written.queue] at hn
    rw [written.stays i hg] at ho
    exact (((queuesSound_iff s).1 h b).behind i o hi hn ho).1

/-! ### CLOSE (R21) -/

theorem putOrder_putOrder (s : State) (i : Fin 48) (o q : Order) : putOrder (putOrder s i o) i q = putOrder s i q := by
  simp [putOrder, setSlot, slotAt]

theorem closeOrder_of_order {s : State} {i : Fin 48} {o : Order} (ho : orderAt s i = some o) (kind : OutcomeKind) :
    closeOrder s i kind = raise .orderClosed (leaveQueue (putOrder s i (closedOrder s o kind)) o.bay [i]) := by
  simp [closeOrder, ho, closeRecord]

theorem recordsClosed_putOrder {s : State} {i : Fin 48} {o c : Order} (ho : orderAt s i = some o) (hb : c.bay = o.bay)
    (hc : c.state = .closed) : RecordsClosed [i] s (putOrder s i c) := by
  refine ⟨fun b => rfl, fun j hj => ?_, fun j hj => ?_⟩
  · cases List.mem_singleton.1 hj
    exact ⟨o, c, ho, orderAt_putOrder_self s i c, hb, hc⟩
  · rw [orderAt_putOrder, if_neg (by simpa using hj)]

theorem queueLeft_singleton (s : State) (b : Fin 32) (i : Fin 48) : queueLeft s b [i] = (queueAt s b).filter fun j => j != i := by
  refine List.filter_congr fun j _ => ?_
  by_cases e : j = i <;> simp [e]

/-- A CLOSE that passes its checks: the record written, then the order out of its queue. -/
theorem closeCommand_of_pass {s : State} {h : WireHandle} {force : Byte} {i : Fin 48} {o : Order} (hn : Names s h i o)
    (hc : o.state ≠ .closed) (unlocked : o.locked = true → force ≠ 0) :
    closeCommand h force s = answer .ok [] (raise .orderClosed (leaveQueue
      (putOrder s i (closedAs s.clock ((bayAt s o.bay).tele.map (·.cabin)) .ended { o with locked := o.locked && decide (force = 0) }))
      o.bay [i])) := by
  have pass : ¬(o.locked && decide (force = 0)) = true := by simpa using unlocked
  simp only [closeCommand, (resolve_iff s h i o).2 hn, (live_iff o).2 hc, not_flagByte, if_neg pass]
  rw [closeOrder_of_order (orderAt_putOrder_self s i _), closedOrder_eq, putOrder_putOrder]
  rfl

/-- Settles O20: the closed record in its slot, and one bay's queue without it. -/
theorem closeEndsTheOrder : Obligations.CloseEndsTheOrder := by
  intro h force s i o sound hn hc unlocked
  have ho : orderAt s i = some o := hn.2.2
  have run : exec (.close h force) s = .next (closeCommand h force s) := rfl
  rw [closeCommand_of_pass hn hc unlocked] at run
  generalize hr : closedAs s.clock ((bayAt s o.bay).tele.map (·.cabin)) .ended
    { o with locked := o.locked && decide (force = 0) } = c at run ⊢
  have leaving : Leaving [i] (putOrder s i c) :=
    (recordsClosed_putOrder ho (by rw [← hr]; rfl) (by rw [← hr]; rfl)).leaving sound
  have slotOther (j : Fin 48) (hj : j ≠ i) : slotAt (leaveQueue (putOrder s i c) o.bay [i]) j
      = reheadSlot (isHead s o.bay j) (isHead (leaveQueue (putOrder s i c) o.bay [i]) o.bay j) (slotAt s j) := by
    rw [leaving.slot o.bay (by simpa using hj), slotAt_putOrder, if_neg hj, isHead_putOrder]
  have slotSelf : slotAt (leaveQueue (putOrder s i c) o.bay [i]) i = { slotAt s i with order := some c } := by
    rw [leaving.slot_gone o.bay (List.mem_singleton_self i), slotAt_putOrder, if_pos rfl]
  refine ⟨_, run, rfl, ?_, ?_, fun a ha => ?_, fun j hj => ⟨?_, ?_⟩, ?_, fun j => ?_, fun hd => ?_, fun hd => ?_, fun a ha => ?_, ?_⟩
  · exact congrArg Slot.order slotSelf
  · simp [queueAt_leaveQueue, queueLeft_singleton]
  · simp [queueAt_leaveQueue, ha]
  · rw [reheaded_eq]
    exact congrArg Slot.order (slotOther j hj)
  · exact congrArg Slot.changeMark (slotOther j hj)
  · exact (congrArg Slot.changeMark slotSelf).trans rfl
  · by_cases e : j = i
    · subst e
      exact ⟨(congrArg Slot.gen slotSelf).trans rfl, (congrArg Slot.learnMark slotSelf).trans rfl⟩
    · exact ⟨(congrArg Slot.gen (slotOther j e)).trans rfl, (congrArg Slot.learnMark (slotOther j e)).trans rfl⟩
  · simp [bayAt_leaveQueue_of_head_gone (s := putOrder s i c) hd (List.mem_singleton_self i)]
  · have stays : ∀ k, HeadOf (putOrder s i c) o.bay k → k ∉ [i] := by
      intro k hk
      rw [List.mem_singleton]
      exact fun e => hd (e ▸ hk)
    simp [bayAt_leaveQueue_of_head_stays stays]
  · simp [bayAt_leaveQueue_ne _ _ ha]
  · obtain ⟨slots, queues, bays, hw⟩ := leaveQueue_writes (putOrder s i c) o.bay [i]
    rw [hw]
    rfl

/-! ### Departure expiry (R27, R28) -/

/-- The slots whose live orders depart at or before the clock. -/
def expiring (s : State) : List (Fin 48) := allSlots.filter (expiresAt s s.clock)

theorem mem_expiring {s : State} {i : Fin 48} :
    i ∈ expiring s ↔ ∃ o, orderAt s i = some o ∧ o.state ≠ .closed ∧ o.departure ≤ s.clock := by
  simp only [expiring, allSlots, List.mem_filter, List.mem_finRange, true_and, expiresAt]
  cases orderAt s i <;> simp [Order.live]

theorem mem_expiring_iff_of_order {s : State} {i : Fin 48} {o : Order} (ho : orderAt s i = some o) :
    i ∈ expiring s ↔ o.state ≠ .closed ∧ o.departure ≤ s.clock := by
  simp [mem_expiring, ho]

theorem nodup_expiring (s : State) : (expiring s).Nodup := (List.nodup_finRange 48).filter _

/-- The record that an expired order leaves (R11, R28). -/
def expiredOrder (s : State) (o : Order) : Order := closedAs s.clock ((bayAt s o.bay).tele.map (·.cabin)) (expiryOutcome o) o

/-- Writes the record of one expired order. -/
def writeExpired (s : State) (i : Fin 48) : State :=
  match orderAt s i with
  | none => s
  | some o => closeRecord s i (expiryOutcome o)

/-- The state with the records of all expired orders written, the queues as they were. -/
def closeExpired (s : State) : State := (expiring s).foldl writeExpired s

theorem expire_eq (s : State) :
    expire s = if (expiring s).isEmpty then s
      else raise .orderClosed (allBays.foldl (fun t b => leaveQueue t b (expiring s)) (closeExpired s)) := rfl

theorem writeExpired_writes (s : State) (i : Fin 48) : ∃ slots, writeExpired s i = { s with slots := slots } := by
  unfold writeExpired
  split
  · exact ⟨_, rfl⟩
  · exact closeRecord_writes s i _

theorem slotAt_writeExpired (s : State) (i j : Fin 48) :
    slotAt (writeExpired s i) j
      = if j = i then { slotAt s i with order := (orderAt s i).map (expiredOrder s) } else slotAt s j := by
  cases ho : orderAt s i with
  | none =>
    have same : writeExpired s i = s := by simp [writeExpired, ho]
    have empty : { slotAt s i with order := none } = slotAt s i := by
      have : (slotAt s i).order = none := ho
      rw [← this]
    rw [same, Option.map_none, empty]
    split
    · next e => rw [e]
    · rfl
  | some o => simp [writeExpired, ho, closeRecord, closedOrder_eq, slotAt_putOrder, expiredOrder]

theorem foldl_writeExpired_writes (l : List (Fin 48)) (s : State) : ∃ slots, l.foldl writeExpired s = { s with slots := slots } :=
  foldl_keeps (fun t => ∃ slots, t = { s with slots := slots }) _
    (by rintro _ i ⟨x, rfl⟩; exact writeExpired_writes { s with slots := x } i) l s ⟨_, rfl⟩

theorem slotAt_foldl_writeExpired (l : List (Fin 48)) (nodup : l.Nodup) (s : State) (j : Fin 48) :
    slotAt (l.foldl writeExpired s) j
      = if j ∈ l then { slotAt s j with order := (orderAt s j).map (expiredOrder s) } else slotAt s j := by
  induction l generalizing s with
  | nil => simp
  | cons i l ih =>
    obtain ⟨hi, nodup⟩ := List.nodup_cons.1 nodup
    have same : expiredOrder (writeExpired s i) = expiredOrder s := by
      obtain ⟨x, hx⟩ := writeExpired_writes s i
      rw [hx]; rfl
    rw [List.foldl_cons, ih nodup, same, orderAt, slotAt_writeExpired]
    by_cases e : j = i
    · subst e; simp [hi]
    · by_cases m : j ∈ l <;> simp [e, m, orderAt]

theorem closeExpired_writes (s : State) : ∃ slots, closeExpired s = { s with slots := slots } := foldl_writeExpired_writes _ s

theorem queueAt_closeExpired (s : State) (b : Fin 32) : queueAt (closeExpired s) b = queueAt s b := by
  obtain ⟨x, h⟩ := closeExpired_writes s; rw [h]; rfl

theorem bayAt_closeExpired (s : State) (b : Fin 32) : bayAt (closeExpired s) b = bayAt s b := by
  obtain ⟨x, h⟩ := closeExpired_writes s; rw [h]; rfl

theorem slotAt_closeExpired_due {s : State} {i : Fin 48} {o : Order} (ho : orderAt s i = some o) (due : i ∈ expiring s) :
    slotAt (closeExpired s) i = { slotAt s i with order := some (expiredOrder s o) } := by
  rw [closeExpired, slotAt_foldl_writeExpired _ (nodup_expiring s), if_pos due, ho, Option.map_some]

theorem slotAt_closeExpired_stays {s : State} {i : Fin 48} (stays : i ∉ expiring s) :
    slotAt (closeExpired s) i = slotAt s i := by
  rw [closeExpired, slotAt_foldl_writeExpired _ (nodup_expiring s), if_neg stays]

theorem recordsClosed_closeExpired (s : State) : RecordsClosed (expiring s) s (closeExpired s) := by
  refine ⟨queueAt_closeExpired s, fun i hi => ?_, fun i hi => congrArg Slot.order (slotAt_closeExpired_stays hi)⟩
  obtain ⟨o, ho, -⟩ := mem_expiring.1 hi
  exact ⟨o, expiredOrder s o, ho, congrArg Slot.order (slotAt_closeExpired_due ho hi), rfl, rfl⟩

/-- Expiry: the records written, the orders out of their queues together, and ORDER_CLOSED raised if there was one. -/
theorem expire_spec {s : State} (sound : QueuesSound s) :
    ∃ u, Left (expiring s) (closeExpired s) u
      ∧ expire s = { u with flags := if expiring s = [] then s.flags else s.flags ||| 0x01 } := by
  by_cases none : expiring s = []
  · refine ⟨s, ?_, by simp [expire_eq, none]⟩
    have same : closeExpired s = s := by simp [closeExpired, none]
    rw [same, none]
    exact Left.refl fun _ _ _ => List.not_mem_nil
  · refine ⟨allBays.foldl (fun t b => leaveQueue t b (expiring s)) (closeExpired s), ?_, ?_⟩
    · exact left_foldl _ ((recordsClosed_closeExpired s).leaving sound) fun b _ hb => absurd (List.mem_finRange b) hb
    · rw [expire_eq, if_neg (by simpa using none), if_neg none]
      have flags : (allBays.foldl (fun t b => leaveQueue t b (expiring s)) (closeExpired s)).flags = s.flags := by
        rw [foldl_unchanged State.flags _ fun t b => ?_]
        · obtain ⟨x, h⟩ := closeExpired_writes s
          rw [h]
        · obtain ⟨_, _, _, h⟩ := leaveQueue_writes t b (expiring s)
          rw [h]
      rw [raise, flags]
      rfl

theorem firstOf_expiryOutcome (o : Order) :
    FirstOf [(o.state = .tripped, OutcomeKind.tripped), (o.state = .holding, .ready), (o.started = true, .short)] .absent
      (expiryOutcome o) := by
  unfold expiryOutcome
  by_cases tripped : o.state = .tripped
  · rw [if_pos tripped]; exact firstOf_hit tripped
  rw [if_neg tripped]
  refine firstOf_miss tripped ?_
  by_cases holding : o.state = .holding
  · rw [if_pos holding]; exact firstOf_hit holding
  rw [if_neg holding]
  refine firstOf_miss holding ?_
  cases o.started
  · exact firstOf_miss (by simp) rfl
  · exact firstOf_hit rfl

/-- What expiry does, slot by slot, queue by queue and bay by bay. -/
structure Expires (s t : State) : Prop where
  slotDue : ∀ i o, orderAt s i = some o → o.state ≠ .closed → o.departure ≤ s.clock →
    slotAt t i = { slotAt s i with order := some (expiredOrder s o) }
  slotStays : ∀ i o, orderAt s i = some o → o.state = .closed ∨ s.clock < o.departure →
    slotAt t i = reheadSlot (isHead s o.bay i) (isHead t o.bay i) (slotAt s i)
  slotEmpty : ∀ i, orderAt s i = none → slotAt t i = slotAt s i
  queue : ∀ b, queueAt t b = (queueAt s b).filter fun i => decide (s.clock < departureAt s i)
  bayDue : ∀ b i, HeadOf s b i → departureAt s i ≤ s.clock → bayAt t b = (bayAt s b).offer .off 0
  bayStays : ∀ b, (∀ i, HeadOf s b i → s.clock < departureAt s i) → bayAt t b = bayAt s b
  flagsDue : (∃ i o, orderAt s i = some o ∧ o.state ≠ .closed ∧ o.departure ≤ s.clock) → t.flags = s.flags ||| 0x01
  flagsStay : (∀ i o, orderAt s i = some o → o.state = .closed ∨ s.clock < o.departure) → t.flags = s.flags

/-- In a sound queue the orders that expire are those departing at or before the clock. -/
theorem mem_expiring_of_queue {s : State} (sound : QueuesSound s) {b : Fin 32} {i : Fin 48} (hi : i ∈ queueAt s b) :
    i ∈ expiring s ↔ departureAt s i ≤ s.clock := by
  obtain ⟨o, ho, -, live⟩ := ((queuesSound_iff s).1 sound b).live hi
  rw [departureAt_of_order ho, mem_expiring_iff_of_order ho]
  exact and_iff_right live

theorem not_mem_expiring_of_order {s : State} {i : Fin 48} {o : Order} (ho : orderAt s i = some o)
    (stays : o.state = .closed ∨ s.clock < o.departure) : i ∉ expiring s := by
  rw [mem_expiring_iff_of_order ho]
  exact fun ⟨live, dep⟩ => stays.elim live fun lt => absurd dep (Nat.not_le.2 lt)

theorem expires_expire {s : State} (sound : QueuesSound s) : Expires s (expire s) := by
  obtain ⟨u, left, hu⟩ := expire_spec sound
  have headW (b : Fin 32) (i : Fin 48) : HeadOf (closeExpired s) b i ↔ HeadOf s b i := by rw [HeadOf, queueAt_closeExpired]; rfl
  rw [hu]
  refine ⟨fun i o ho live dep => ?_, fun i o ho stays => ?_, fun i none => ?_, fun b => ?_, fun b i hi dep => ?_,
    fun b stays => ?_, fun ⟨i, o, ho, live, dep⟩ => ?_, fun stays => ?_⟩
  · have due : i ∈ expiring s := (mem_expiring_iff_of_order ho).2 ⟨live, dep⟩
    exact (left.slotGone i due).trans (slotAt_closeExpired_due ho due)
  · have notDue := not_mem_expiring_of_order ho stays
    have same := slotAt_closeExpired_stays notDue
    have := left.slotStays i o notDue ((congrArg Slot.order same).trans ho)
    rwa [same, isHead_congr (queueAt_closeExpired s _)] at this
  · have notDue : i ∉ expiring s := fun m => by
      obtain ⟨o, ho, -⟩ := mem_expiring.1 m
      exact absurd (none.symm.trans ho) (by simp)
    have same := slotAt_closeExpired_stays notDue
    exact (left.slotEmpty i ((congrArg Slot.order same).trans none)).trans same
  · refine (left.queue b).trans ?_
    rw [queueLeft, queueAt_closeExpired]
    refine List.filter_congr fun i hi => ?_
    rw [Bool.eq_iff_iff, decide_eq_true_iff]
    simp [mem_expiring_of_queue sound hi]
  · have due := (mem_expiring_of_queue sound (List.mem_of_head? hi)).2 dep
    exact (left.bayGone b i ((headW b i).2 hi) due).trans (by rw [bayAt_closeExpired])
  · refine (left.bayStays b fun i hi due => ?_).trans (bayAt_closeExpired s b)
    have hi' := (headW b i).1 hi
    exact absurd ((mem_expiring_of_queue sound (List.mem_of_head? hi')).1 due) (Nat.not_le.2 (stays i hi'))
  · have due : i ∈ expiring s := (mem_expiring_iff_of_order ho).2 ⟨live, dep⟩
    exact if_neg (List.ne_nil_of_mem due)
  · refine if_pos (List.eq_nil_iff_forall_not_mem.2 fun i due => ?_)
    obtain ⟨o, ho, -⟩ := mem_expiring.1 due
    exact not_mem_expiring_of_order ho (stays i o ho) due

/-- The two changes of the clock, each as expiry on the state with the new count. -/
theorem exec_clock_change {c : Instr} {now : Nat} {s : State}
    (change : (∃ v : Word, c = .setClock v ∧ now = v.toNat) ∨ (c = .clockAdvance ∧ s.clock < 4294967295 ∧ now = s.clock + 1)) :
    exec c s = .next { expire { s with clock := now, phase := 0 } with
      response := if c = .clockAdvance then s.response else { code := .ok, payload := [] }
      rx := if c = .clockAdvance then s.rx else .empty } := by
  rcases change with ⟨v, rfl, rfl⟩ | ⟨rfl, lt, rfl⟩
  · rfl
  · have below : ¬clockMax ≤ s.clock := Nat.not_le.2 lt
    simp only [exec, execClockAdvance, clockAdvance, if_neg below, if_true]
    obtain ⟨_, _, _, _, h⟩ := expire_writes { s with clock := s.clock + 1, phase := 0 }
    rw [h]

/-- Settles O11: a change of the clock is expiry on the state with the new count. -/
theorem clockChangesCloseExpiredOrders : Obligations.ClockChangesCloseExpiredOrders := by
  refine ⟨fun s saturated => by simp [exec, execClockAdvance, clockAdvance, clockMax, saturated], fun c now s sound change => ?_⟩
  have e := expires_expire (s := { s with clock := now, phase := 0 }) sound
  refine ⟨_, exec_clock_change change, ?_⟩
  obtain ⟨slots, queues, bays, flags, writes⟩ := expire_writes { s with clock := now, phase := 0 }
  generalize expire { s with clock := now, phase := 0 } = t at e writes
  refine ⟨by rw [writes], by rw [writes], fun i o ho live dep => ⟨expiryOutcome o, ?_, firstOf_expiryOutcome o⟩,
    fun i o ho stays => ⟨?_, ?_⟩, fun i o ho live dep => ?_, fun i none => ⟨?_, ?_⟩, fun i => ?_, e.queue, e.bayDue, e.bayStays,
    e.flagsDue, e.flagsStay, by rw [writes]⟩
  · exact congrArg Slot.order (e.slotDue i o ho live dep)
  · have order : (slotAt s i).order = some o := ho
    exact (congrArg Slot.order (e.slotStays i o ho stays)).trans (by
      rw [reheaded_eq, reheadSlot_order]; exact congrArg (Option.map _) order)
  · exact congrArg Slot.changeMark (e.slotStays i o ho stays)
  · exact (congrArg Slot.changeMark (e.slotDue i o ho live dep)).trans rfl
  · exact (congrArg Slot.order (e.slotEmpty i none)).trans none
  · exact congrArg Slot.changeMark (e.slotEmpty i none)
  · cases ho : orderAt s i with
    | none => exact ⟨congrArg Slot.gen (e.slotEmpty i ho), congrArg Slot.learnMark (e.slotEmpty i ho)⟩
    | some o =>
      by_cases dep : o.state ≠ .closed ∧ o.departure ≤ now
      · have := e.slotDue i o ho dep.1 dep.2
        exact ⟨(congrArg Slot.gen this).trans rfl, (congrArg Slot.learnMark this).trans rfl⟩
      · have := e.slotStays i o ho (by rwa [not_and_or, not_not, Nat.not_le] at dep)
        exact ⟨(congrArg Slot.gen this).trans rfl, (congrArg Slot.learnMark this).trans rfl⟩

end Sys2Proof.OrderTable
end

section
/-! OPEN (R13 to R15) and AMEND (R16 to R19): their checks, the place in the queue, the consultation. -/

namespace Sys2Proof.OrderTable

open Sys2Proof.Machine Sys2Proof.Safety

/-! ### The checks that OPEN and AMEND share -/

theorem priorityOf_iff (b : Byte) (p : Priority) : priorityOf b = some p ↔ p.code = b.toNat := by
  have code (n : Nat) (h : n < 256) : b = BitVec.ofNat 8 n ↔ b.toNat = n := by
    rw [← BitVec.toNat_inj, BitVec.toNat_ofNat, Nat.mod_eq_of_lt h]
  have h0 := code 0 (by decide)
  have h1 := code 1 (by decide)
  have h2 := code 2 (by decide)
  unfold priorityOf
  simp only [BitVec.ofNat_eq_ofNat, h0, h1, h2]
  cases p <;> simp only [Priority.code] <;> split_ifs <;> simp <;> omega

theorem priorityOf_none (b : Byte) : priorityOf b = none ↔ 2 < b.toNat := by
  rw [Option.eq_none_iff_forall_ne_some]
  simp only [ne_eq, priorityOf_iff]
  constructor
  · intro h
    have := h .standard
    have := h .elevated
    have := h .urgent
    simp only [Priority.code] at *
    omega
  · intro h p
    cases p <;> simp only [Priority.code] <;> omega

theorem inWindow_iff (s : State) (d : Nat) : inWindow s d = true ↔ s.clock + 60 ≤ d ∧ d ≤ s.clock + 604800 := by
  simp [inWindow]

theorem not_inWindow_iff (s : State) (d : Nat) : (!inWindow s d) = true ↔ d < s.clock + 60 ∨ s.clock + 604800 < d := by
  rw [Bool.not_eq_true', ← Bool.not_eq_true, inWindow_iff]
  omega

theorem crowded_iff (s : State) (d : Nat) (slots : List (Fin 48)) :
    crowded s d slots = true ↔ ∃ i ∈ slots, ∃ o, orderAt s i = some o ∧ distance o.departure d < 900 := by
  simp only [crowded, List.any_eq_true]
  refine exists_congr fun i => and_congr_right fun _ => ?_
  cases orderAt s i <;> simp

theorem aheadOfFixed_iff (s : State) (b : Fin 32) (d : Nat) :
    aheadOfFixed s b d = true
      ↔ ∃ i o, HeadOf s b i ∧ orderAt s i = some o ∧ (o.started = true ∨ o.state = .tripped) ∧ d < o.departure := by
  unfold aheadOfFixed
  cases h : headOrder s b with
  | none =>
    simp only [reduceCtorEq, false_iff]
    rintro ⟨i, o, hi, ho, -⟩
    rw [(headOrder_iff s b i o).2 ⟨hi, ho⟩] at h
    cases h
  | some x =>
    obtain ⟨i, o⟩ := x
    obtain ⟨hi, ho⟩ := (headOrder_iff s b i o).1 h
    simp only [Bool.and_eq_true, decide_eq_true_eq, fixed_iff]
    refine ⟨fun ⟨hf, hd⟩ => ⟨i, o, hi, ho, hf, hd⟩, ?_⟩
    rintro ⟨j, q, hj, hq, hf, hd⟩
    have : some (i, o) = some (j, q) := h.symm.trans ((headOrder_iff s b j q).2 ⟨hj, hq⟩)
    cases this
    exact ⟨hf, hd⟩

theorem emptySlot_none (s : State) : emptySlot s = none ↔ ∀ i, orderAt s i ≠ none := by
  simp [emptySlot, allSlots, List.find?_eq_none, Option.isNone_iff_eq_none]

theorem emptySlot_some {s : State} {i : Fin 48} (empty : orderAt s i = none) (lowest : ∀ j, j < i → orderAt s j ≠ none) :
    emptySlot s = some i := by
  cases h : emptySlot s with
  | none => exact absurd empty ((emptySlot_none s).1 h i)
  | some j =>
    have hj : orderAt s j = none := by simpa using List.find?_some h
    rw [emptySlot, List.find?_eq_some_iff_append] at h
    obtain ⟨-, before, after, list, none⟩ := h
    have sorted : (List.finRange 48).Pairwise (· < ·) := List.pairwise_lt_finRange 48
    have mem : i ∈ before ++ j :: after := by rw [← list]; exact List.mem_finRange i
    rw [show List.finRange 48 = before ++ j :: after from list, List.pairwise_append, List.pairwise_cons] at sorted
    rcases List.mem_append.1 mem with hi | hi
    · have := none i hi
      simp [empty] at this
    · rcases List.mem_cons.1 hi with rfl | hi
      · rfl
      · exact absurd hj (lowest j (sorted.2.1.1 i hi))

/-- In sound queues the queue of a bay is the list of its live orders, for any condition on them. -/
theorem exists_in_queue_iff {s : State} (sound : QueuesSound s) (b : Fin 32) (P : Fin 48 → Order → Prop) :
    (∃ i ∈ queueAt s b, ∃ o, orderAt s i = some o ∧ P i o) ↔ ∃ i o, LiveOrder s b i o ∧ P i o := by
  have mem := ((queuesSound_iff s).1 sound b).mem
  constructor
  · rintro ⟨i, hi, o, ho, hp⟩
    obtain ⟨hb, hl⟩ := bay_of_mem_queue sound hi ho
    exact ⟨i, o, ⟨ho, hb, hl⟩, hp⟩
  · rintro ⟨i, o, live, hp⟩
    exact ⟨i, (mem i).2 ⟨o, live⟩, o, live.1, hp⟩

theorem crowded_queue_iff {s : State} (sound : QueuesSound s) (b : Fin 32) (d : Nat) :
    crowded s d (queueAt s b) = true ↔ ∃ i o, LiveOrder s b i o ∧ distance o.departure d < 900 := by
  rw [crowded_iff, exists_in_queue_iff sound b fun _ o => distance o.departure d < 900]

/-! ### The checks of OPEN (R13) -/

/-- Settles O13: the checks in turn, on the bay and the priority that the operands name. -/
theorem openChecksInOrder : Obligations.OpenChecksInOrder := by
  intro bay tag departure target band priority options s sound
  have run : exec (.openOrder bay tag departure target band priority options) s
      = .next (openOrder bay tag departure target band priority options s) := rfl
  by_cases bad : 31 < bay.toNat ∨ 2 < priority.toNat
  · refine judgedBy_refusal (code := .badValue) ?_ (firstOf_hit bad)
    rw [← bayOfByte_none, ← priorityOf_none] at bad
    rw [run, openOrder]
    rcases bad with none | none
    · rw [none]
    · rw [none]; split <;> simp_all
  obtain ⟨b, hb⟩ : ∃ b, bayOfByte bay = some b := Option.ne_none_iff_exists'.1 fun n => bad (.inl ((bayOfByte_none bay).1 n))
  obtain ⟨p, hp⟩ : ∃ p, priorityOf priority = some p :=
    Option.ne_none_iff_exists'.1 fun n => bad (.inr ((priorityOf_none priority).1 n))
  have atBay (P : Fin 32 → Prop) : (∃ a : Fin 32, a.val = bay.toNat ∧ P a) ↔ P b := by
    have hb' := (bayOfByte_iff bay b).1 hb
    refine ⟨?_, fun h => ⟨b, hb'.symm, h⟩⟩
    rintro ⟨a, ha, h⟩
    exact (Fin.ext (ha.trans hb') : a = b) ▸ h
  simp only [openOrder, hb, hp] at run
  by_cases late : (!inWindow s departure.toNat) = true
  · rw [if_pos late] at run
    exact judgedBy_refusal run (firstOf_miss bad (firstOf_hit ((not_inWindow_iff s _).1 late)))
  have window := mt (not_inWindow_iff s departure.toNat).2 late
  rw [if_neg late] at run
  cases empty : emptySlot s with
  | none =>
    simp only [empty] at run
    exact judgedBy_refusal run (firstOf_miss bad (firstOf_miss window (firstOf_hit ((emptySlot_none s).1 empty))))
  | some i =>
    simp only [empty] at run
    have room : ¬∀ i, orderAt s i ≠ none := fun full => by simp [(emptySlot_none s).2 full] at empty
    have conflict : (crowded s departure.toNat (queueAt s b) || aheadOfFixed s b departure.toNat) = true
        ↔ (∃ i o, LiveOrder s b i o ∧ distance o.departure departure.toNat < 900)
          ∨ ∃ i o, HeadOf s b i ∧ orderAt s i = some o ∧ (o.started = true ∨ o.state = .tripped)
              ∧ departure.toNat < o.departure := by
      rw [Bool.or_eq_true, crowded_queue_iff sound, aheadOfFixed_iff]
    by_cases full : 3 ≤ (queueAt s b).length
    · rw [if_pos full] at run
      refine judgedBy_refusal run (firstOf_miss bad (firstOf_miss window (firstOf_miss room (firstOf_hit ?_))))
      exact (atBay fun b => 3 ≤ (queueAt s b).length).2 full
    · have full' := mt (atBay fun b => 3 ≤ (queueAt s b).length).1 full
      rw [if_neg full] at run
      by_cases clash : (crowded s departure.toNat (queueAt s b) || aheadOfFixed s b departure.toNat) = true
      · rw [if_pos clash] at run
        refine judgedBy_refusal run (firstOf_miss bad (firstOf_miss window (firstOf_miss room (firstOf_miss full' (firstOf_hit ?_)))))
        rw [atBay]
        exact conflict.1 clash
      · rw [if_neg clash] at run
        refine judgedBy_ok run (firstOf_miss bad (firstOf_miss window (firstOf_miss room (firstOf_miss full' (firstOf_miss ?_ rfl)))))
        rw [atBay]
        exact mt conflict.2 clash

/-! ### The checks of AMEND (R16, R17) -/

theorem amendConflict_iff {s : State} (sound : QueuesSound s) {i : Fin 48} {o : Order} (d : Nat) :
    amendConflict s i o d = true ↔ AmendConflicts s i o d := by
  have others (P : Fin 48 → Order → Prop) :
      (∃ j ∈ (queueAt s o.bay).filter (fun j => j != i), ∃ q, orderAt s j = some q ∧ P j q)
        ↔ ∃ j q, j ≠ i ∧ LiveOrder s o.bay j q ∧ P j q := by
    have := exists_in_queue_iff sound o.bay fun j q => j ≠ i ∧ P j q
    simp only [List.mem_filter, bne_iff_ne] at this ⊢
    constructor
    · rintro ⟨j, ⟨hj, ne⟩, q, hq, hp⟩
      obtain ⟨j, q, live, ne, hp⟩ := this.1 ⟨j, hj, q, hq, ne, hp⟩
      exact ⟨j, q, ne, live, hp⟩
    · rintro ⟨j, q, ne, live, hp⟩
      obtain ⟨j, hj, q, hq, ne, hp⟩ := this.2 ⟨j, q, live, ne, hp⟩
      exact ⟨j, ⟨hj, ne⟩, q, hq, hp⟩
  have head : (headSlot s o.bay == some i) = true ↔ HeadOf s o.bay i := by rw [beq_iff_eq]; rfl
  have anyEarlier : ((queueAt s o.bay).filter (fun j => j != i)).any (fun j => match orderAt s j with
        | some q => decide (q.departure < d)
        | none => false) = true ↔ ∃ j q, j ≠ i ∧ LiveOrder s o.bay j q ∧ q.departure < d := by
    rw [List.any_eq_true, ← others fun _ q => q.departure < d]
    refine exists_congr fun j => and_congr_right fun _ => ?_
    cases orderAt s j <;> simp
  unfold amendConflict AmendConflicts
  simp only [Bool.or_eq_true, Bool.and_eq_true, or_assoc]
  refine or_congr ?_ (or_congr ?_ ?_)
  · rw [crowded_iff, others fun _ q => distance q.departure d < 900]
  · rw [Bool.not_eq_true', ← Bool.not_eq_true, head, aheadOfFixed_iff]
    constructor
    · rintro ⟨notHead, j, q, hj, hq, hf, hd⟩
      exact ⟨j, q, fun e => notHead (e ▸ hj), hj, hq, hf, hd⟩
    · rintro ⟨j, q, ne, hj, hq, hf, hd⟩
      exact ⟨fun hi => ne (Option.some.inj (hj.symm.trans hi)), j, q, hj, hq, hf, hd⟩
  · rw [head, fixed_iff, and_assoc]
    exact and_congr_right fun _ => and_congr_right fun _ => anyEarlier

section
variable (force changes : Byte) (departure : Word) (target : Half) (band priority : Byte) (tag : Word)

theorem changesOf_force : (changesOf force changes departure target band priority tag).force = flagByte force := rfl

theorem changesOf_departure : (changesOf force changes departure target band priority tag).departure
    = if changes.getLsbD 0 then some departure.toNat else none := rfl

theorem changesOf_tag : (changesOf force changes departure target band priority tag).tag
    = if changes.getLsbD 4 then some tag else none := rfl

theorem tagBarred_iff (o : Order) :
    tagBarred o (changesOf force changes departure target band priority tag) = true
      ↔ changes.getLsbD 4 = true ∧ tag ≠ o.tag ∧ o.started = true := by
  rw [tagBarred, changesOf_tag]
  cases changes.getLsbD 4 <;> simp [and_comm]

end

/-- Settles O16: the checks in turn, those of the departure only when it is named. -/
theorem amendChecksInOrder : Obligations.AmendChecksInOrder := by
  intro h force changes departure target band priority tag s sound
  have run : exec (.amend h force changes departure target band priority tag) s
      = .next (amendOrder h force changes departure target band priority tag s) := rfl
  have bad_iff : (namedBit changes 3 = true ∧ priorityOf priority = none)
      ↔ (changes.getLsbD 3 = true ∧ 2 < priority.toNat) := by rw [priorityOf_none]; rfl
  unfold amendOrder at run
  dsimp only at run
  by_cases bad : namedBit changes 3 = true ∧ priorityOf priority = none
  · rw [if_pos bad] at run
    exact judgedBy_refusal run (firstOf_hit (bad_iff.1 bad))
  rw [if_neg bad] at run
  have c1 := mt bad_iff.2 bad
  cases hr : resolve s h with
  | none =>
    simp only [hr] at run
    exact judgedBy_refusal run (firstOf_miss c1 (firstOf_hit ((resolve_none s h).1 hr)))
  | some x =>
    obtain ⟨i, o⟩ := x
    have hn := (resolve_iff s h i o).1 hr
    have c2 : ¬¬∃ i o, Names s h i o := not_not_intro ⟨i, o, hn⟩
    simp only [hr] at run
    by_cases closed : o.state = .closed
    · rw [if_pos (by simpa using live_eq_false.2 closed)] at run
      exact judgedBy_refusal run (firstOf_miss c1 (firstOf_miss c2 (firstOf_hit ⟨i, o, hn, closed⟩)))
    rw [if_neg (by simpa using (live_iff o).2 closed)] at run
    have c3 := mt (exists_names_iff hn fun _ o => o.state = .closed).1 closed
    have locked_iff : (o.locked && !(changesOf force changes departure target band priority tag).force) = true
        ↔ o.locked = true ∧ force = 0 := by
      rw [show (changesOf force changes departure target band priority tag).force = flagByte force from rfl, not_flagByte,
        Bool.and_eq_true, decide_eq_true_iff]
    by_cases locked : o.locked = true ∧ force = 0
    · rw [if_pos (locked_iff.2 locked)] at run
      exact judgedBy_refusal run (firstOf_miss c1 (firstOf_miss c2 (firstOf_miss c3 (firstOf_hit ⟨i, o, hn, locked⟩))))
    rw [if_neg (mt locked_iff.1 locked)] at run
    have c4 := mt (exists_names_iff hn fun _ o => o.locked = true ∧ force = 0).1 locked
    have barred_iff := tagBarred_iff force changes departure target band priority tag o
    by_cases barred : changes.getLsbD 4 = true ∧ tag ≠ o.tag ∧ o.started = true
    · rw [if_pos (barred_iff.2 barred)] at run
      exact judgedBy_refusal run
        (firstOf_miss c1 (firstOf_miss c2 (firstOf_miss c3 (firstOf_miss c4 (firstOf_hit ⟨i, o, hn, barred⟩)))))
    rw [if_neg (mt barred_iff.1 barred)] at run
    have c5 := mt (exists_names_iff hn fun _ o => changes.getLsbD 4 = true ∧ tag ≠ o.tag ∧ o.started = true).1 barred
    cases named : changes.getLsbD 0 with
    | false =>
      have none : (changesOf force changes departure target band priority tag).departure = none := by
        rw [changesOf_departure, named]; rfl
      simp only [none] at run
      exact judgedBy_ok run (firstOf_miss c1 (firstOf_miss c2 (firstOf_miss c3 (firstOf_miss c4 (firstOf_miss c5
        (firstOf_miss (by simp) (firstOf_miss (by simp) rfl)))))))
    | true =>
      have some' : (changesOf force changes departure target band priority tag).departure = some departure.toNat := by
        rw [changesOf_departure, named]; rfl
      simp only [some'] at run
      by_cases late : (!inWindow s departure.toNat) = true
      · rw [if_pos late] at run
        exact judgedBy_refusal run (firstOf_miss c1 (firstOf_miss c2 (firstOf_miss c3 (firstOf_miss c4 (firstOf_miss c5
          (firstOf_hit ⟨rfl, (not_inWindow_iff s _).1 late⟩))))))
      rw [if_neg late] at run
      have c6 : ¬(true = true ∧ (departure.toNat < s.clock + 60 ∨ s.clock + 604800 < departure.toNat)) :=
        fun c => late ((not_inWindow_iff s _).2 c.2)
      by_cases clash : amendConflict s i o departure.toNat = true
      · rw [if_pos clash] at run
        exact judgedBy_refusal run (firstOf_miss c1 (firstOf_miss c2 (firstOf_miss c3 (firstOf_miss c4 (firstOf_miss c5
          (firstOf_miss c6 (firstOf_hit ⟨rfl, i, o, hn, (amendConflict_iff sound _).1 clash⟩)))))))
      · rw [if_neg clash] at run
        refine judgedBy_ok run (firstOf_miss c1 (firstOf_miss c2 (firstOf_miss c3 (firstOf_miss c4 (firstOf_miss c5
          (firstOf_miss c6 (firstOf_miss (fun c => clash ?_) rfl)))))))
        exact (amendConflict_iff sound _).2 ((exists_names_iff hn fun i o => AmendConflicts s i o departure.toNat).1 c.2)

/-! ### Placing an order in its queue (R7, R9, R15, R18) -/

/-- The queue of a bay without one order. -/
def queueOthers (s : State) (b : Fin 32) (i : Fin 48) : List (Fin 48) := (queueAt s b).filter fun j => j != i

theorem mem_queueOthers {s : State} {b : Fin 32} {i j : Fin 48} : j ∈ queueOthers s b i ↔ j ∈ queueAt s b ∧ j ≠ i := by
  simp [queueOthers]

/-- The order in slot `i`, its record written, can take its place among the others of the bay `b`: they are live orders of the
bay, each 900 s from the other and from it, only the head is not QUEUED, and none departs before a fixed head. -/
structure Placeable (u : State) (b : Fin 32) (i : Fin 48) : Prop where
  live : ∀ j, (j = i ∨ j ∈ queueAt u b) ↔ ∃ o, LiveOrder u b j o
  room : (queueOthers u b i).length ≤ 2
  apart : (queueOthers u b i).Pairwise fun j k => departureAt u j + 900 ≤ departureAt u k
  gap : ∀ j ∈ queueOthers u b i, 900 ≤ distance (departureAt u j) (departureAt u i)
  head : ∀ j o, HeadOf u b j → orderAt u j = some o → o.state ≠ .queued
  behind : ∀ j o, j = i ∨ j ∈ queueAt u b → ¬HeadOf u b j → orderAt u j = some o → o.state = .queued ∧ o.started = false
  fixed : ∀ j o, HeadOf u b j → orderAt u j = some o → o.started = true ∨ o.state = .tripped →
    ∀ k, k = i ∨ k ∈ queueAt u b → departureAt u j ≤ departureAt u k

/-- `t` is `u` with the order of slot `i` in its place in the queue of `b`, and the head change that brings. -/
structure Requeued (u t : State) (b : Fin 32) (i : Fin 48) : Prop where
  queue : queueAt t b = insertByDeparture (departureAt u) i (queueOthers u b i)
  queueOther : ∀ a, a ≠ b → queueAt t a = queueAt u a
  slot : ∀ j, slotAt t j = reheadSlot (isHead u b j) (isHead t b j) (slotAt u j)
  writes : ∃ slots queues, t = { u with slots := slots, queues := queues }

theorem mem_insert_others {dep : Fin 48 → Nat} {u : State} {b : Fin 32} {i j : Fin 48} :
    j ∈ insertByDeparture dep i (queueOthers u b i) ↔ j = i ∨ j ∈ queueAt u b := by
  rw [mem_insertByDeparture, mem_queueOthers]
  by_cases e : j = i <;> simp [e]

theorem requeue_spec {u : State} {b : Fin 32} {i : Fin 48} (h : Placeable u b i) : Requeued u (requeue u i b) b i := by
  let q := setQueue u b (insertByDeparture (departureAt u) i (queueOthers u b i))
  have e : requeue u i b = rehead q b (headSlot u b) := rfl
  have qb : queueAt q b = insertByDeparture (departureAt u) i (queueOthers u b i) := queueAt_setQueue_self u b _
  refine ⟨by rw [e, queueAt_rehead, qb], fun a ha => ?_, fun j => ?_, ?_⟩
  · rw [e, queueAt_rehead]
    exact queueAt_setQueue_ne u _ ha
  · rw [e, slotAt_rehead (fun j hj => ?_) (fun j hj moved => ?_), isHead_congr (queueAt_rehead q b (headSlot u b) b)]
    · rfl
    · obtain ⟨o, ho, -⟩ := (h.live j).1 (.inr (List.mem_of_head? hj))
      exact ⟨o, ho⟩
    · have mem : j ∈ queueAt q b := List.mem_of_head? hj
      rw [qb, mem_insert_others] at mem
      obtain ⟨o, ho, -⟩ := (h.live j).1 mem
      exact ⟨o, ho, (h.behind j o mem moved ho).1⟩
  · obtain ⟨slots, hw⟩ := rehead_writes q b (headSlot u b)
    exact ⟨slots, _, e.trans hw⟩

/-- The order inserted is first exactly when it departs before every other. -/
theorem head_insertByDeparture {dep : Fin 48 → Nat} {i : Fin 48} {q : List (Fin 48)}
    (sorted : q.Pairwise fun j k => dep j + 900 ≤ dep k) (ne : i ∉ q) :
    (insertByDeparture dep i q).head? = some i ↔ ∀ j ∈ q, dep i < dep j := by
  cases q with
  | nil => simp [insertByDeparture]
  | cons k rest =>
    have hk : k ≠ i := fun e => ne (e ▸ List.mem_cons_self)
    unfold insertByDeparture
    split
    · next lt =>
      refine iff_of_true rfl fun j hj => ?_
      rcases List.mem_cons.1 hj with rfl | hj
      · exact lt
      · have := (List.pairwise_cons.1 sorted).1 j hj
        omega
    · next ge =>
      simp only [List.head?_cons, Option.some.injEq, hk, false_iff]
      exact fun all => ge (all k List.mem_cons_self)

section
variable {u t : State} {b : Fin 32} {i : Fin 48}

theorem Placeable.not_mem_others (u : State) (b : Fin 32) (i : Fin 48) : i ∉ queueOthers u b i :=
  fun m => (mem_queueOthers.1 m).2 rfl

/-- The new queue has its departures strictly rising. -/
theorem Placeable.sorted (h : Placeable u b i) :
    (insertByDeparture (departureAt u) i (queueOthers u b i)).Pairwise fun j k => departureAt u j < departureAt u k := by
  refine pairwise_insertByDeparture _ _ _ (h.apart.imp fun h => by omega) fun j hj e => ?_
  have := h.gap j hj
  rw [e, distance] at this
  omega

/-- In the new queue each order departs at least 900 s after the one before it. -/
theorem Placeable.apart_after (h : Placeable u b i) :
    (insertByDeparture (departureAt u) i (queueOthers u b i)).Pairwise fun j k => departureAt u j + 900 ≤ departureAt u k := by
  let far (j k : Fin 48) : Prop := departureAt u j + 900 ≤ departureAt u k ∨ departureAt u k + 900 ≤ departureAt u j
  have symm : Std.Symm far := ⟨fun _ _ => Or.symm⟩
  have others : ∀ ⦃j⦄, j ∈ queueOthers u b i → ∀ ⦃k⦄, k ∈ queueOthers u b i → j ≠ k → far j k :=
    (h.apart.imp fun {_ _} le => Or.inl le : (queueOthers u b i).Pairwise far).forall
  have self (j : Fin 48) (hj : j ∈ queueOthers u b i) : far j i := by
    have := h.gap j hj
    simp only [distance, far] at this ⊢
    omega
  refine h.sorted.imp_of_mem fun {j k} hj hk lt => ?_
  rw [mem_insertByDeparture] at hj hk
  have : far j k := by
    rcases hj with rfl | hj <;> rcases hk with rfl | hk
    · omega
    · exact (self k hk).symm
    · exact self j hj
    · exact others hj hk fun e => by subst e; omega
  simp only [far] at this
  omega

theorem Requeued.order (r : Requeued u t b i) (j : Fin 48) :
    orderAt t j = (orderAt u j).map (reheadOrder (isHead u b j) (isHead t b j)) := congrArg Slot.order (r.slot j)

theorem Requeued.departure (r : Requeued u t b i) (j : Fin 48) : departureAt t j = departureAt u j := by
  rw [departureAt, departureAt, r.order j]
  cases orderAt u j <;> simp

theorem Requeued.mem_queue (r : Requeued u t b i) (j : Fin 48) : j ∈ queueAt t b ↔ j = i ∨ j ∈ queueAt u b := by
  rw [r.queue, mem_insert_others]

/-- A slot that does not stand in the queue is not touched. -/
theorem Requeued.slot_outside (r : Requeued u t b i) {j : Fin 48} (hj : ¬(j = i ∨ j ∈ queueAt u b)) : slotAt t j = slotAt u j := by
  rw [r.slot j, isHead_eq_false fun m => hj (.inr m), isHead_eq_false fun m => hj ((r.mem_queue j).1 m), reheadSlot_same]

theorem reheadOrder_live {was is : Bool} {o : Order} (live : o.state ≠ .closed) : (reheadOrder was is o).state ≠ .closed := by
  cases was <;> cases is <;> simp [reheadOrder, live]

theorem Requeued.reheads (h : Placeable u b i) (r : Requeued u t b i) : Reheads u t := by
  intro j q hq
  by_cases mem : j = i ∨ j ∈ queueAt u b
  · obtain ⟨o, ho, -, live⟩ := (h.live j).1 mem
    rw [r.order, ho, Option.map_some, Option.some.injEq] at hq
    exact ⟨o, _, _, ho, .inr live, hq.symm⟩
  · exact ⟨q, false, false, (congrArg Slot.order (r.slot_outside mem)).symm.trans hq, .inl rfl, rfl⟩

/-- A fixed head, before which no order departs, keeps first place. -/
theorem Requeued.fixed_stays (h : Placeable u b i) (r : Requeued u t b i) {j : Fin 48} {o : Order} (hj : HeadOf u b j)
    (ho : orderAt u j = some o) (fixed : o.started = true ∨ o.state = .tripped) : HeadOf t b j := by
  have first := h.fixed j o hj ho fixed
  have sorted := h.sorted
  have mem : j ∈ queueAt t b := (r.mem_queue j).2 (.inr (List.mem_of_head? hj))
  rw [← r.queue] at sorted
  cases hq : queueAt t b with
  | nil => simp [hq] at mem
  | cons k rest =>
    rw [hq] at mem sorted
    rcases List.mem_cons.1 mem with rfl | hr
    · simp [HeadOf, hq]
    · have lt := (List.pairwise_cons.1 sorted).1 j hr
      have le := first k ((r.mem_queue k).1 (by simp [hq]))
      omega

/-- The queue in which the order was placed is sound again. -/
theorem Requeued.queueSound (h : Placeable u b i) (r : Requeued u t b i) : QueueSound t b := by
  refine ⟨?_, fun j => ?_, ?_, fun j o' hj ho' => ?_, fun j o' hj notHead ho' => ?_⟩
  · rw [r.queue, length_insertByDeparture]
    exact Nat.succ_le_succ h.room
  · rw [r.mem_queue]
    by_cases mem : j = i ∨ j ∈ queueAt u b
    · obtain ⟨o, ho, hb, live⟩ := (h.live j).1 mem
      exact iff_of_true mem ⟨_, by rw [r.order, ho]; rfl, (reheadOrder_bay _ _ o).trans hb, reheadOrder_live live⟩
    · refine iff_of_false mem ?_
      rintro ⟨o, ho, live⟩
      exact mem ((h.live j).2 ⟨o, (congrArg Slot.order (r.slot_outside mem)).symm.trans ho, live⟩)
  · rw [r.queue]
    simpa only [r.departure] using h.apart_after
  · rw [r.order, Option.map_eq_some_iff] at ho'
    obtain ⟨o, ho, rfl⟩ := ho'
    rw [isHead_iff.2 hj]
    by_cases was : HeadOf u b j
    · rw [isHead_iff.2 was, reheadOrder_same]
      exact h.head j o was ho
    · rw [Bool.eq_false_iff.2 (isHead_iff.not.2 was)]
      simp [reheadOrder]
  · rw [r.order, Option.map_eq_some_iff] at ho'
    obtain ⟨o, ho, rfl⟩ := ho'
    rw [Bool.eq_false_iff.2 (isHead_iff.not.2 notHead)]
    by_cases was : HeadOf u b j
    · have free : ¬(o.started = true ∨ o.state = .tripped) := fun fixed => notHead (r.fixed_stays h was ho fixed)
      rw [isHead_iff.2 was]
      simp only [not_or, Bool.not_eq_true] at free
      exact ⟨rfl, free.1⟩
    · rw [Bool.eq_false_iff.2 (isHead_iff.not.2 was), reheadOrder_same]
      exact h.behind j o ((r.mem_queue j).1 hj) was ho

end

/-- A queue stays sound while it lists the same slots and the live orders of its bay are the same. -/
theorem QueueSound.congr {s t : State} {b : Fin 32} (h : QueueSound s b) (queue : queueAt t b = queueAt s b)
    (orders : ∀ i o, o.bay = b → o.state ≠ .closed → (orderAt t i = some o ↔ orderAt s i = some o)) : QueueSound t b := by
  have live (i : Fin 48) (o : Order) : LiveOrder t b i o ↔ LiveOrder s b i o :=
    ⟨fun ⟨ho, hb, hl⟩ => ⟨(orders i o hb hl).1 ho, hb, hl⟩, fun ⟨ho, hb, hl⟩ => ⟨(orders i o hb hl).2 ho, hb, hl⟩⟩
  have order (i : Fin 48) (hi : i ∈ queueAt s b) : orderAt t i = orderAt s i := by
    obtain ⟨o, ho, hb, hl⟩ := h.live hi
    exact ((orders i o hb hl).2 ho).trans ho.symm
  have departure (i : Fin 48) (hi : i ∈ queueAt s b) : departureAt t i = departureAt s i := by
    rw [departureAt, order i hi]; rfl
  refine ⟨queue ▸ h.length, fun i => ?_, ?_, fun i o hi ho => ?_, fun i o hi notHead ho => ?_⟩
  · simp only [queue, h.mem, live]
  · rw [queue]
    exact h.apart.imp_of_mem fun {i j} hi hj le => by rwa [departure i hi, departure j hj]
  · rw [HeadOf, queue] at hi
    exact h.head i o hi ((order i (List.mem_of_head? hi)).symm.trans ho)
  · rw [queue] at hi
    rw [HeadOf, queue] at notHead
    exact h.behind i o hi notHead ((order i hi).symm.trans ho)

/-! ### A record written in a slot, to be placed -/

/-- `u` holds what `s` holds of the order table, but for the record `n` in slot `i`. -/
structure OrderWritten (s u : State) (i : Fin 48) (n : Order) : Prop where
  queue : ∀ a, queueAt u a = queueAt s a
  self : orderAt u i = some n
  other : ∀ j, j ≠ i → orderAt u j = orderAt s j

/-- What R13, R16 and R17 ask of the record `n` for slot `i`, next to the other orders of its bay. -/
structure Fits (s : State) (i : Fin 48) (n : Order) : Prop where
  live : n.state ≠ .closed
  own : ∀ o, orderAt s i = some o → o.bay = n.bay
  room : (queueOthers s n.bay i).length ≤ 2
  gap : ∀ j q, j ≠ i → LiveOrder s n.bay j q → 900 ≤ distance q.departure n.departure
  head : HeadOf s n.bay i → n.state ≠ .queued
  behind : ¬HeadOf s n.bay i → n.state = .queued ∧ n.started = false
  fixedOther : ∀ j q, j ≠ i → HeadOf s n.bay j → orderAt s j = some q → q.started = true ∨ q.state = .tripped →
    q.departure ≤ n.departure
  fixedSelf : HeadOf s n.bay i → n.started = true ∨ n.state = .tripped →
    ∀ j q, j ≠ i → LiveOrder s n.bay j q → n.departure ≤ q.departure

/-- The head of a sound queue departs first. -/
theorem QueueSound.head_departs_first {s : State} {b : Fin 32} (h : QueueSound s b) {i j : Fin 48} (hi : HeadOf s b i)
    (hj : j ∈ queueAt s b) : departureAt s i ≤ departureAt s j := by
  obtain ⟨rest, hq⟩ := List.head?_eq_some_iff.1 hi
  have apart := h.apart
  rw [hq] at hj apart
  rcases List.mem_cons.1 hj with rfl | hj
  · exact le_rfl
  · have := (List.pairwise_cons.1 apart).1 j hj
    omega

section
variable {s u : State} {i : Fin 48} {n : Order}

theorem OrderWritten.departure_self (w : OrderWritten s u i n) : departureAt u i = n.departure := departureAt_of_order w.self

theorem OrderWritten.departure_other (w : OrderWritten s u i n) {j : Fin 48} (hj : j ≠ i) : departureAt u j = departureAt s j := by
  rw [departureAt, w.other j hj]; rfl

theorem OrderWritten.isHead (w : OrderWritten s u i n) (b : Fin 32) (j : Fin 48) : isHead u b j = isHead s b j :=
  isHead_congr (w.queue b) j

theorem OrderWritten.headOf (w : OrderWritten s u i n) (b : Fin 32) (j : Fin 48) : HeadOf u b j ↔ HeadOf s b j := by
  rw [HeadOf, w.queue]; rfl

theorem OrderWritten.live_other (w : OrderWritten s u i n) {b : Fin 32} {j : Fin 48} {o : Order} (hj : j ≠ i) :
    LiveOrder u b j o ↔ LiveOrder s b j o := by rw [LiveOrder, w.other j hj]; rfl

theorem OrderWritten.queueOthers (w : OrderWritten s u i n) (b : Fin 32) : queueOthers u b i = queueOthers s b i := by
  rw [OrderTable.queueOthers, w.queue]; rfl

/-- A record that fits can take its place. -/
theorem placeable_of_written (sound : QueuesSound s) (w : OrderWritten s u i n) (fits : Fits s i n) : Placeable u n.bay i := by
  have h := (queuesSound_iff s).1 sound n.bay
  have liveOther {j : Fin 48} (hj : j ∈ queueAt s n.bay) (ne : j ≠ i) :
      ∃ q, LiveOrder s n.bay j q ∧ departureAt u j = q.departure := by
    obtain ⟨q, hq⟩ := h.live hj
    exact ⟨q, hq, (w.departure_other ne).trans (departureAt_of_order hq.1)⟩
  refine ⟨fun j => ?_, ?_, ?_, fun j hj => ?_, fun j o hj ho => ?_, fun j o hj notHead ho => ?_, fun j o hj ho fixed k hk => ?_⟩
  · by_cases e : j = i
    · subst e
      exact iff_of_true (.inl rfl) ⟨n, w.self, rfl, fits.live⟩
    · simp only [e, false_or, w.queue, h.mem, w.live_other e]
  · rw [w.queueOthers]; exact fits.room
  · rw [w.queueOthers]
    refine (h.apart.filter _).imp_of_mem fun {j k} hj hk le => ?_
    rwa [w.departure_other (mem_queueOthers.1 hj).2, w.departure_other (mem_queueOthers.1 hk).2]
  · rw [w.queueOthers] at hj
    obtain ⟨hj, ne⟩ := mem_queueOthers.1 hj
    obtain ⟨q, live, dep⟩ := liveOther hj ne
    rw [dep, w.departure_self]
    exact fits.gap j q ne live
  · rw [w.headOf] at hj
    by_cases e : j = i
    · subst e
      exact Option.some.inj (w.self.symm.trans ho) ▸ fits.head hj
    · exact h.head j o hj ((w.other j e).symm.trans ho)
  · rw [w.headOf] at notHead
    by_cases e : j = i
    · subst e
      exact Option.some.inj (w.self.symm.trans ho) ▸ fits.behind notHead
    · rw [w.queue] at hj
      exact h.behind j o (hj.resolve_left e) notHead ((w.other j e).symm.trans ho)
  · rw [w.headOf] at hj
    rw [w.queue] at hk
    by_cases ej : j = i
    · subst ej
      have hn : n = o := Option.some.inj (w.self.symm.trans ho)
      by_cases ek : k = j
      · rw [ek]
      · obtain ⟨q, live, dep⟩ := liveOther (hk.resolve_left ek) ek
        rw [dep, w.departure_self]
        exact fits.fixedSelf hj (hn ▸ fixed) k q ek live
    · have ho' := (w.other j ej).symm.trans ho
      by_cases ek : k = i
      · rw [ek, w.departure_self, w.departure_other ej, departureAt_of_order ho']
        exact fits.fixedOther j o ej hj ho' fixed
      · rw [w.departure_other ej, w.departure_other ek]
        exact h.head_departs_first hj (hk.resolve_left ek)

/-- Placing a record that fits leaves every queue sound. -/
theorem queuesSound_of_requeued {t : State} (sound : QueuesSound s) (w : OrderWritten s u i n) (fits : Fits s i n)
    (r : Requeued u t n.bay i) : QueuesSound t := by
  have place := placeable_of_written sound w fits
  rw [queuesSound_iff]
  intro a
  by_cases e : a = n.bay
  · exact e ▸ r.queueSound place
  · refine ((queuesSound_iff s).1 sound a).congr ((r.queueOther a e).trans (w.queue a)) fun j o hb _ => ?_
    by_cases mem : j = i ∨ j ∈ queueAt u n.bay
    · obtain ⟨q, hq, hqb, -⟩ := (place.live j).1 mem
      refine iff_of_false (fun ho => e ?_) fun ho => e ?_
      · rw [r.order, hq, Option.map_some, Option.some.injEq] at ho
        rw [← hb, ← ho, reheadOrder_bay, hqb]
      · rw [← hb]
        rcases mem with rfl | mem
        · exact fits.own o ho
        · rw [w.queue] at mem
          exact (bay_of_mem_queue sound mem ho).1
    · rw [orderAt, r.slot_outside mem, ← orderAt, w.other j fun e => mem (.inl e)]

/-- The place of a record, in the words of R7. -/
theorem placed_of_requeued {t : State} (sound : QueuesSound s) (w : OrderWritten s u i n) (fits : Fits s i n)
    (r : Requeued u t n.bay i) : Placed s t n.bay i := by
  refine ⟨(r.mem_queue i).2 (.inl rfl), ?_, ?_⟩
  · rw [r.queue, filter_insertByDeparture, OrderTable.queueOthers, List.filter_filter, w.queue]
    simp
  · rw [r.queue]
    simpa only [r.departure] using (placeable_of_written sound w fits).sorted

end

/-! ### The consultation of the profile table (R59, R60) -/

theorem isVictim_of_victim {s : State} {v : Profile} (sound : ProfilesSound s) (h : victim s = some v) : IsVictim s v := by
  have tag (p : Profile) (hp : p ∈ s.profiles) : p.tag ≠ 0 := (sound.2.2 p hp).1
  rw [victim, List.find?_eq_some_iff_append] at h
  obtain ⟨hv, front, back, list, kept⟩ := h
  have list' : s.profiles = back.reverse ++ v :: front.reverse := by
    rw [← List.reverse_reverse s.profiles, list]; simp
  have mem : v ∈ s.profiles := by simp [list']
  simp only [Bool.and_eq_true, Bool.not_eq_true', ← Bool.not_eq_true, referenced_iff, not_and] at hv
  refine ⟨back.reverse, front.reverse, list', by simpa using hv.1, hv.2 (tag v mem), fun p hp => ?_⟩
  have := kept p (List.mem_reverse.1 hp)
  simp only [Bool.not_eq_true', Bool.and_eq_false_iff, Bool.not_eq_false', referenced_iff] at this
  exact this.imp (by simp) And.right

theorem noVictim_of_victim {s : State} (h : victim s = none) : NoVictim s := by
  intro p hp
  have := List.find?_eq_none.1 h p (List.mem_reverse.2 hp)
  by_cases pinned : p.pinned = true
  · exact .inl pinned
  · exact .inr ((referenced_iff s p.tag).1 (by simpa [pinned] using this)).2

theorem withoutProfile_of_absent {s : State} {tag : Tag} (absent : ∀ p ∈ s.profiles, p.tag ≠ tag) :
    withoutProfile s tag = s.profiles :=
  List.filter_eq_self.2 fun p hp => by simpa using absent p hp

section
variable {s : State} {tag : Tag}

theorem consult_of_found {p : Profile} (zero : tag ≠ 0) (found : findProfile s tag = some p) :
    consult s tag = (placeFirst s p, false) := by rw [consult, if_neg zero, found]

theorem consult_of_room {t : State} {e : Tag} (zero : tag ≠ 0) (found : findProfile s tag = none) (room : makeRoom s = some (t, e)) :
    consult s tag = (placeFirst t (freshProfile tag), false) := by rw [consult, if_neg zero, found, room]

theorem consult_of_full (zero : tag ≠ 0) (found : findProfile s tag = none) (full : makeRoom s = none) :
    consult s tag = (s, true) := by rw [consult, if_neg zero, found, full]

/-- A consultation has one of the outcomes of R59. -/
theorem consult_spec (sound : ProfilesSound s) (tag : Tag) : Consults s tag (consult s tag).1.profiles (consult s tag).2 := by
  by_cases zero : tag = 0
  · exact .inl (by simp [consult, zero])
  cases found : findProfile s tag with
  | some p =>
    obtain ⟨-, mem, rfl⟩ := findProfile_some found
    rw [consult_of_found zero found]
    exact .inr (.inl ⟨zero, ⟨p, mem, rfl, rfl⟩, rfl⟩)
  | none =>
    have absent := (findProfile_none.1 found).resolve_left zero
    by_cases room : s.profiles.length < 64
    · rw [consult_of_room zero found (if_pos room)]
      exact .inr (.inr (.inl ⟨zero, absent, ⟨0, .inl ⟨room, congrArg _ (withoutProfile_of_absent absent), rfl⟩⟩, rfl⟩))
    have full := Nat.not_lt.1 room
    cases hv : victim s with
    | none =>
      rw [consult_of_full zero found ((if_neg room).trans (by rw [hv]; rfl))]
      exact .inr (.inr (.inr ⟨zero, absent, full, noVictim_of_victim hv, rfl, rfl⟩))
    | some v =>
      have absent' : ∀ p ∈ withoutProfile s v.tag, p.tag ≠ tag := fun p hp => absent p (List.mem_of_mem_filter hp)
      have list := withoutProfile_of_absent (s := { s with profiles := withoutProfile s v.tag }) absent'
      rw [consult_of_room zero found ((if_neg room).trans (by rw [hv]; rfl))]
      exact .inr (.inr (.inl ⟨zero, absent, ⟨v.tag, .inr ⟨full, v, isVictim_of_victim sound hv, congrArg _ list, rfl⟩⟩, rfl⟩))

end

/-- A consultation reads the profiles and the references only. -/
theorem consults_congr {s t : State} {tag : Tag} {after : List Profile} {noProfile : Bool} (h : Consults s tag after noProfile)
    (profiles : t.profiles = s.profiles) (references : ∀ tag, Referenced t tag ↔ Referenced s tag) :
    Consults t tag after noProfile := by
  simpa only [Consults, Creates, IsVictim, NoVictim, profiles, references] using h

/-! ### OPEN (R14, R15) -/

/-- The state with the record of an opened order in its slot, not yet in its queue. -/
def openFilled (s : State) (i : Fin 48) (o : Order) : State :=
  setSlot (consult s o.tag).1 i
    { slotAt (consult s o.tag).1 i with order := some { o with flags := .atOpen (consult s o.tag).2 }, learnMark := false }

theorem openFilled_writes (s : State) (i : Fin 48) (o : Order) :
    openFilled s i o
      = { setSlot s i { slotAt s i with order := some { o with flags := .atOpen (consult s o.tag).2 }, learnMark := false } with
          profiles := (consult s o.tag).1.profiles } := by
  obtain ⟨profiles, h⟩ := consult_writes s o.tag
  rw [openFilled, h]
  rfl

theorem slotAt_openFilled (s : State) (i j : Fin 48) (o : Order) :
    slotAt (openFilled s i o) j
      = if j = i then { slotAt s i with order := some { o with flags := .atOpen (consult s o.tag).2 }, learnMark := false }
        else slotAt s j := by
  rw [openFilled_writes]
  exact slotAt_setSlot s i j _

theorem orderWritten_openFilled (s : State) (i : Fin 48) (o : Order) :
    OrderWritten s (openFilled s i o) i { o with flags := .atOpen (consult s o.tag).2 } := by
  refine ⟨fun a => by rw [openFilled_writes]; rfl, ?_, fun j hj => ?_⟩
  · rw [orderAt, slotAt_openFilled, if_pos rfl]
  · rw [orderAt, slotAt_openFilled, if_neg hj]; rfl

theorem createOrder_eq {s : State} {i : Fin 48} {o : Order} (outside : i ∉ queueAt s o.bay) :
    createOrder s i o = requeue (openFilled s i o) i o.bay := by
  have queue : queueAt (openFilled s i o) o.bay = queueAt s o.bay := (orderWritten_openFilled s i o).queue o.bay
  have others : queueOthers (openFilled s i o) o.bay i = queueAt (openFilled s i o) o.bay :=
    List.filter_eq_self.2 fun j hj => by
      rw [queue] at hj
      exact bne_iff_ne.2 fun e => outside (e ▸ hj)
  have old : headSlot s o.bay = headSlot (openFilled s i o) o.bay := congrArg List.head? queue.symm
  calc createOrder s i o
      = rehead (setQueue (openFilled s i o) o.bay
          (insertByDeparture (departureAt (openFilled s i o)) i (queueAt (openFilled s i o) o.bay))) o.bay (headSlot s o.bay) := rfl
    _ = requeue (openFilled s i o) i o.bay := by rw [old, ← others]; rfl

/-- An empty slot stands in no queue. -/
theorem not_mem_queue_of_empty {s : State} (sound : QueuesSound s) {i : Fin 48} (empty : orderAt s i = none) (b : Fin 32) :
    i ∉ queueAt s b := fun mem => by
  obtain ⟨o, ho, -⟩ := ((queuesSound_iff s).1 sound b).live mem
  simp [empty] at ho

section
variable {bay priority : Byte} {departure : Word} {s : State} {b : Fin 32} {p : Priority} {i : Fin 48}

/-- An OPEN that passes its checks is the creation of its order. -/
theorem openOrder_of_passes (passes : OpenPasses s bay priority departure b p i) (sound : QueuesSound s) (tag : Word)
    (target : Half) (band options : Byte) :
    openOrder bay tag departure target band priority options s
      = answer .ok (handleBytes s i) (createOrder s i (newOrder s b p tag departure target band options)) := by
  obtain ⟨hb, hp, early, late, empty, lowest, room, gap, fixed⟩ := passes
  have window : ¬(!inWindow s departure.toNat) = true := by rw [not_inWindow_iff]; omega
  have clash : ¬(crowded s departure.toNat (queueAt s b) || aheadOfFixed s b departure.toNat) = true := by
    rw [Bool.or_eq_true, crowded_queue_iff sound, aheadOfFixed_iff]
    rintro (⟨j, o, live, near⟩ | ⟨j, o, hj, ho, hf, ahead⟩)
    · exact absurd (gap j o live) (Nat.not_le.2 near)
    · exact absurd (fixed j o hj ho hf) (Nat.not_le.2 ahead)
  simp only [openOrder, (bayOfByte_iff bay b).2 hb.symm, (priorityOf_iff priority p).2 hp, if_neg window,
    emptySlot_some empty lowest, if_neg (Nat.not_le.2 room), if_neg clash]

/-- The record of an OPEN that passes its checks fits. -/
theorem fits_of_openPasses (passes : OpenPasses s bay priority departure b p i) (sound : QueuesSound s) {n : Order}
    (hb : n.bay = b) (dep : n.departure = departure.toNat) (state : n.state = .queued) (started : n.started = false) :
    Fits s i n := by
  obtain ⟨-, -, -, -, empty, -, room, gap, fixed⟩ := passes
  have notHead (a : Fin 32) : ¬HeadOf s a i := fun hi => not_mem_queue_of_empty sound empty a (List.mem_of_head? hi)
  refine ⟨by simp [state], fun o ho => by simp [empty] at ho, ?_, fun j q _ live => ?_, fun hi => absurd hi (notHead _),
    fun _ => ⟨state, started⟩, fun j q _ hj hq hf => ?_, fun hi => absurd hi (notHead _)⟩
  · rw [hb]
    have : (queueOthers s b i).length ≤ (queueAt s b).length := List.length_filter_le _ _
    omega
  · rw [dep]
    exact gap j q (hb ▸ live)
  · rw [dep]
    exact fixed j q (hb ▸ hj) hq hf

end

/-- The record of R14, before its head change. -/
def openedOrder (s : State) (b : Fin 32) (p : Priority) (tag departure : Word) (target : Half) (band options : Byte) : Order :=
  { newOrder s b p tag departure target band options with flags := .atOpen (consult s tag).2 }

/-- What an OPEN that passes its checks leaves, the port aside. -/
theorem requeued_of_openPasses {bay priority : Byte} {departure : Word} {s : State} {b : Fin 32} {p : Priority} {i : Fin 48}
    (passes : OpenPasses s bay priority departure b p i) (sound : QueuesSound s) (tag : Word) (target : Half)
    (band options : Byte) :
    ∃ u t, openOrder bay tag departure target band priority options s = answer .ok (handleBytes s i) t
      ∧ u = openFilled s i (newOrder s b p tag departure target band options)
      ∧ OrderWritten s u i (openedOrder s b p tag departure target band options)
      ∧ Fits s i (openedOrder s b p tag departure target band options) ∧ Requeued u t b i := by
  have fits := fits_of_openPasses passes sound (n := openedOrder s b p tag departure target band options) rfl rfl rfl rfl
  have written : OrderWritten s _ i (openedOrder s b p tag departure target band options) :=
    orderWritten_openFilled s i (newOrder s b p tag departure target band options)
  have place := placeable_of_written sound written fits
  refine ⟨_, _, (openOrder_of_passes passes sound tag target band options).trans (congrArg _ (createOrder_eq ?_)), rfl, written,
    fits, requeue_spec place⟩
  exact not_mem_queue_of_empty sound passes.2.2.2.2.1 _

/-- Settles O14: the record written in the lowest empty slot, then placed in its bay's queue. -/
theorem openCreatesOrder : Obligations.OpenCreatesOrder := by
  intro bay tag departure target band priority options s b p i sound passes
  obtain ⟨u, t, run, hu, written, fits, r⟩ := requeued_of_openPasses passes sound tag target band options
  have exec' : exec (.openOrder bay tag departure target band priority options) s = .next (answer .ok (handleBytes s i) t) :=
    congrArg _ run
  have outside := not_mem_queue_of_empty sound passes.2.2.2.2.1
  have slotU (j : Fin 48) : slotAt u j = if j = i
      then { slotAt s i with order := some (openedOrder s b p tag departure target band options), learnMark := false }
      else slotAt s j := by
    rw [hu, slotAt_openFilled]
    rfl
  have slotSelf : slotAt t i = reheadSlot false (isHead t b i)
      { slotAt s i with order := some (openedOrder s b p tag departure target band options), learnMark := false } := by
    rw [r.slot i, slotU, if_pos rfl, written.isHead, isHead_eq_false (outside b)]
  have slotOther (j : Fin 48) (hj : j ≠ i) : slotAt t j = reheadSlot (isHead s b j) (isHead t b j) (slotAt s j) := by
    rw [r.slot j, slotU, if_neg hj, written.isHead]
  have others : queueOthers u b i = queueAt s b := by
    rw [written.queueOthers]
    exact List.filter_eq_self.2 fun j hj => bne_iff_ne.2 fun e => outside b (e ▸ hj)
  have leads : isHead t b i = true ↔ ∀ j o, LiveOrder s b j o → departure.toNat < o.departure := by
    have place : Placeable u b i := placeable_of_written sound written fits
    rw [isHead_iff, HeadOf, r.queue, head_insertByDeparture place.apart (Placeable.not_mem_others u b i), others]
    have h := (queuesSound_iff s).1 sound b
    have departs {j : Fin 48} {o : Order} (live : LiveOrder s b j o) : departureAt u j = o.departure := by
      have ne : j ≠ i := fun e => outside b (e ▸ h.mem_of_live live)
      rw [written.departure_other ne, departureAt_of_order live.1]
    rw [written.departure_self]
    constructor
    · intro all j o live
      exact departs live ▸ all j (h.mem_of_live live)
    · intro all j hj
      obtain ⟨o, live⟩ := h.live hj
      exact (departs live).symm ▸ all j o live
  refine ⟨_, (consult s tag).2, if isHead t b i then .planned else .queued, exec', rfl, ?_, fun first => ?_, fun notFirst => ?_,
    fun zero => ?_, ?_, ?_, ?_, fun a ha => ?_, fun j hj => ⟨?_, ?_, ?_, ?_⟩, ?_⟩
  · refine (congrArg Slot.order slotSelf).trans ?_
    cases isHead t b i <;> rfl
  · rw [leads.2 first]; rfl
  · rw [Bool.eq_false_iff.2 (leads.not.2 notFirst)]; rfl
  · simp [consult, zero]
  · exact (congrArg Slot.gen slotSelf).trans rfl
  · exact (congrArg Slot.learnMark slotSelf).trans rfl
  · have placed : Placed s t b i := placed_of_requeued sound written fits r
    exact placed
  · exact (r.queueOther a ha).trans (written.queue a)
  · rw [reheaded_eq]
    exact congrArg Slot.order (slotOther j hj)
  · exact (congrArg Slot.gen (slotOther j hj)).trans rfl
  · exact (congrArg Slot.learnMark (slotOther j hj)).trans rfl
  · exact congrArg Slot.changeMark (slotOther j hj)
  · obtain ⟨slots, queues, rfl⟩ := r.writes
    rw [hu, openFilled_writes]
    rfl

/-! ### AMEND (R18, R19) -/

/-- The state with the amended record in its slot and the table consulted for a new tag, the queue as it was. -/
def amendWritten (s : State) (i : Fin 48) (o n : Order) : State :=
  if n.tag ≠ o.tag then retag (putOrder s i n) i n else putOrder s i n

/-- The NO_PROFILE decision of an AMEND (R19). -/
def amendNoProfile (s : State) (i : Fin 48) (o n : Order) : Bool :=
  if n.tag ≠ o.tag then (consult (putOrder s i n) n.tag).2 else n.flags.noProfile

/-- The record that an AMEND writes. -/
def amendRecord (s : State) (i : Fin 48) (o n : Order) : Order :=
  { n with flags := { n.flags with noProfile := amendNoProfile s i o n } }

theorem applyAmend_eq (s : State) (i : Fin 48) (o : Order) (c : Changes) :
    applyAmend s i o c
      = if (amendedOrder o c).departure ≠ o.departure then requeue (amendWritten s i o (amendedOrder o c)) i o.bay
        else amendWritten s i o (amendedOrder o c) := rfl

theorem amendWritten_writes (s : State) (i : Fin 48) (o n : Order) :
    ∃ profiles, amendWritten s i o n = { putOrder s i (amendRecord s i o n) with profiles := profiles }
      ∧ (n.tag = o.tag → profiles = s.profiles)
      ∧ (n.tag ≠ o.tag → profiles = (consult (putOrder s i n) n.tag).1.profiles) := by
  unfold amendWritten amendRecord amendNoProfile
  by_cases changed : n.tag ≠ o.tag
  · obtain ⟨profiles, h⟩ := consult_writes (putOrder s i n) n.tag
    simp only [if_pos changed, retag, h]
    exact ⟨profiles, congrArg (fun x : State => { x with profiles := profiles }) (putOrder_putOrder s i n _),
      fun same => absurd same changed, fun _ => rfl⟩
  · simp only [if_neg changed]
    exact ⟨s.profiles, rfl, fun _ => rfl, fun h => absurd h changed⟩

/-- What a successful AMEND leaves, the port aside: the record `n` written, and placed anew when its departure changed. -/
structure Amended (s t : State) (i : Fin 48) (o n : Order) : Prop where
  slot : ∀ j, slotAt t j = reheadSlot (isHead s o.bay j) (isHead t o.bay j) (slotAt (putOrder s i n) j)
  placed : n.departure ≠ o.departure → Placed s t o.bay i
  queue : n.departure = o.departure → queueAt t o.bay = queueAt s o.bay
  queueOther : ∀ a, a ≠ o.bay → queueAt t a = queueAt s a
  sound : QueuesSound t
  reheads : Reheads (putOrder s i n) t
  writes : ∃ slots queues, t = { s with slots := slots, queues := queues, profiles := t.profiles }

/-- A record written over one of the same place in the table leaves every queue sound. -/
theorem queuesSound_of_written {s u : State} {i : Fin 48} {o n : Order} (sound : QueuesSound s) (ho : orderAt s i = some o)
    (w : OrderWritten s u i n) (bay : n.bay = o.bay) (departure : n.departure = o.departure)
    (live : n.state = .closed ↔ o.state = .closed) (queued : n.state = .queued ↔ o.state = .queued)
    (started : o.state = .queued → n.started = o.started) : QueuesSound u := by
  rw [queuesSound_iff]
  intro b
  have h := (queuesSound_iff s).1 sound b
  have dep (j : Fin 48) : departureAt u j = departureAt s j := by
    by_cases e : j = i
    · rw [e, w.departure_self, departureAt_of_order ho, departure]
    · exact w.departure_other e
  refine ⟨(w.queue b).symm ▸ h.length, fun j => ?_, ?_, fun j q hj hq => ?_, fun j q hj notHead hq => ?_⟩
  · rw [w.queue, h.mem]
    by_cases e : j = i
    · subst e
      simp only [LiveOrder, ho, w.self, Option.some.injEq]
      constructor
      · rintro ⟨q, rfl, hb, hl⟩
        exact ⟨n, rfl, bay.trans hb, mt live.1 hl⟩
      · rintro ⟨q, rfl, hb, hl⟩
        exact ⟨o, rfl, bay.symm.trans hb, mt live.2 hl⟩
    · simp only [w.live_other e]
  · rw [w.queue]
    simpa only [dep] using h.apart
  · rw [w.headOf] at hj
    by_cases e : j = i
    · subst e
      rw [w.self, Option.some.injEq] at hq
      exact hq ▸ mt queued.1 (h.head j o hj ho)
    · exact h.head j q hj ((w.other j e).symm.trans hq)
  · rw [w.headOf] at notHead
    rw [w.queue] at hj
    by_cases e : j = i
    · subst e
      rw [w.self, Option.some.injEq] at hq
      obtain ⟨hs, hst⟩ := h.behind j o hj notHead ho
      exact hq ▸ ⟨queued.2 hs, (started hs).trans hst⟩
    · exact h.behind j q hj notHead ((w.other j e).symm.trans hq)

/-- A record with a new departure fits where the tests of R17 find no conflict. -/
theorem fits_of_amend {s : State} {i : Fin 48} {o n : Order} (sound : QueuesSound s) (ho : orderAt s i = some o)
    (live : o.state ≠ .closed) (bay : n.bay = o.bay) (state : n.state = o.state) (started : n.started = o.started)
    (clear : ¬AmendConflicts s i o n.departure) : Fits s i n := by
  have h := (queuesSound_iff s).1 sound o.bay
  have mem : i ∈ queueAt s o.bay := h.mem_of_live ⟨ho, rfl, live⟩
  simp only [AmendConflicts, not_or, not_exists, not_and, Nat.not_lt] at clear
  obtain ⟨gap, fixedOther, fixedSelf⟩ := clear
  refine ⟨state ▸ live, fun q hq => ?_, ?_, ?_, ?_, ?_, ?_, ?_⟩ <;> rw [bay]
  · rw [ho, Option.some.injEq] at hq
    rw [hq]
  · have lt : (queueOthers s o.bay i).length < (queueAt s o.bay).length :=
      List.length_filter_lt_length_iff_exists.2 ⟨i, mem, by simp⟩
    have := h.length
    omega
  · exact gap
  · exact fun hi => state ▸ h.head i o hi ho
  · exact fun notHead => state ▸ started ▸ h.behind i o mem notHead ho
  · exact fixedOther
  · rw [state, started]
    exact fixedSelf

theorem slotAt_amendWritten (s : State) (i : Fin 48) (o n : Order) (j : Fin 48) :
    slotAt (amendWritten s i o n) j = slotAt (putOrder s i (amendRecord s i o n)) j := by
  obtain ⟨profiles, h, -⟩ := amendWritten_writes s i o n
  rw [h]; rfl

theorem orderWritten_amendWritten (s : State) (i : Fin 48) (o n : Order) :
    OrderWritten s (amendWritten s i o n) i (amendRecord s i o n) := by
  obtain ⟨profiles, h, -⟩ := amendWritten_writes s i o n
  rw [h]
  refine ⟨fun a => rfl, orderAt_putOrder_self s i _, fun j hj => ?_⟩
  exact (orderAt_putOrder s i j _).trans (if_neg hj)

section
variable {s : State} {h : WireHandle} {force changes : Byte} {departure : Word} {priority : Byte} {tag : Word} {i : Fin 48}
  {o : Order}

/-- An AMEND that passes its checks is applied. -/
theorem amendOrder_of_passes (passes : AmendPasses s h force changes departure priority tag i o) (sound : QueuesSound s)
    (target : Half) (band : Byte) :
    amendOrder h force changes departure target band priority tag s
      = answer .ok [] (applyAmend s i o (changesOf force changes departure target band priority tag)) := by
  obtain ⟨hn, prio, live, unlocked, tagFree, window⟩ := passes
  have badPriority : ¬(namedBit changes 3 = true ∧ priorityOf priority = none) := by
    rw [priorityOf_none]
    exact fun ⟨named, high⟩ => absurd (prio named) (Nat.not_le.2 high)
  have lockFree : ¬(o.locked && !(changesOf force changes departure target band priority tag).force) = true := by
    rw [changesOf_force, not_flagByte]
    simpa using unlocked
  have tagBar : ¬tagBarred o (changesOf force changes departure target band priority tag) = true := by
    rw [tagBarred_iff]
    exact fun ⟨named, ne, started⟩ => ne (tagFree named started)
  have liveOrder : ¬(!o.live) = true := by simpa using (live_iff o).2 live
  simp only [amendOrder, if_neg badPriority, (resolve_iff s h i o).2 hn, if_neg liveOrder, if_neg lockFree, if_neg tagBar]
  rw [changesOf_departure]
  cases named : changes.getLsbD 0 with
  | false => rfl
  | true =>
    obtain ⟨inTime, clear⟩ := window named
    have late : ¬(!inWindow s departure.toNat) = true := by rw [not_inWindow_iff]; omega
    have clash : ¬amendConflict s i o departure.toNat = true := mt (amendConflict_iff sound _).1 clear
    simp only [if_true, if_neg late, if_neg clash]

/-- The departure of an amended record. -/
theorem amendedOrder_departure (o : Order) (force changes : Byte) (departure : Word) (target : Half) (band priority : Byte)
    (tag : Word) : (amendedOrder o (changesOf force changes departure target band priority tag)).departure
      = if changes.getLsbD 0 then departure.toNat else o.departure := by
  rw [amendedOrder, changesOf_departure]
  cases changes.getLsbD 0 <;> rfl

theorem amendedOrder_tag (o : Order) (force changes : Byte) (departure : Word) (target : Half) (band priority : Byte)
    (tag : Word) : (amendedOrder o (changesOf force changes departure target band priority tag)).tag
      = if changes.getLsbD 4 then tag else o.tag := by
  rw [amendedOrder, changesOf_tag]
  cases changes.getLsbD 4 <;> rfl

theorem amended_of_passes (passes : AmendPasses s h force changes departure priority tag i o) (sound : QueuesSound s)
    (target : Half) (band : Byte) :
    ∃ t, exec (.amend h force changes departure target band priority tag) s = .next (answer .ok [] t)
      ∧ t.profiles = (amendWritten s i o (amendedOrder o (changesOf force changes departure target band priority tag))).profiles
      ∧ Amended s t i o
          (amendRecord s i o (amendedOrder o (changesOf force changes departure target band priority tag))) := by
  have run : exec (.amend h force changes departure target band priority tag) s
      = .next (answer .ok [] (applyAmend s i o (changesOf force changes departure target band priority tag))) :=
    congrArg _ (amendOrder_of_passes passes sound target band)
  rw [applyAmend_eq] at run
  have ho : orderAt s i = some o := passes.1.2.2
  have hdep := amendedOrder_departure o force changes departure target band priority tag
  generalize hn : amendedOrder o (changesOf force changes departure target band priority tag) = n at run hdep ⊢
  have bay : n.bay = o.bay := by rw [← hn]; rfl
  have state : n.state = o.state := by rw [← hn]; rfl
  have started : n.started = o.started := by rw [← hn]; rfl
  have w := orderWritten_amendWritten s i o n
  obtain ⟨profiles, writes, -⟩ := amendWritten_writes s i o n
  by_cases moved : n.departure ≠ o.departure
  · rw [if_pos moved] at run
    have named : changes.getLsbD 0 = true := by
      by_contra notNamed
      exact moved (by rw [hdep, if_neg notNamed])
    have fits : Fits s i (amendRecord s i o n) :=
      fits_of_amend sound ho passes.2.2.1 bay state started (by
        have : (amendRecord s i o n).departure = departure.toNat := hdep.trans (if_pos named)
        rw [this]
        exact (passes.2.2.2.2.2 named).2)
    have sameBay : (amendRecord s i o n).bay = o.bay := bay
    have place : Placeable (amendWritten s i o n) o.bay i := by rw [← sameBay]; exact placeable_of_written sound w fits
    have r := requeue_spec place
    have r' : Requeued (amendWritten s i o n) (requeue (amendWritten s i o n) i o.bay) (amendRecord s i o n).bay i := by
      rw [sameBay]; exact r
    obtain ⟨slots, queues, hw⟩ := r.writes
    refine ⟨_, run, by rw [hw], fun j => ?_, fun _ => ?_, fun same => absurd same moved, fun a ha => ?_, ?_, fun j q hq => ?_, ?_⟩
    · rw [r.slot, slotAt_amendWritten, w.isHead]
    · have placed := placed_of_requeued sound w fits r'
      rwa [sameBay] at placed
    · exact (r.queueOther a ha).trans (w.queue a)
    · exact queuesSound_of_requeued sound w fits r'
    · simpa only [orderAt, slotAt_amendWritten] using r.reheads place j q hq
    · exact ⟨slots, queues, by rw [hw, writes]; rfl⟩
  · rw [if_neg moved] at run
    refine ⟨_, run, rfl, fun j => ?_, fun n => absurd n moved, fun _ => w.queue _, fun a _ => w.queue a, ?_, fun j q hq => ?_, ?_⟩
    · rw [w.isHead, reheadSlot_same, slotAt_amendWritten]
    · exact queuesSound_of_written sound ho w bay (not_not.1 moved) (state ▸ Iff.rfl) (state ▸ Iff.rfl) fun _ => started
    · exact ⟨q, false, false, (congrArg Slot.order (slotAt_amendWritten s i o n j)).symm.trans hq, .inl rfl, rfl⟩
    · exact ⟨_, s.queues, by rw [writes]; rfl⟩

end

/-- The record that an AMEND writes, field by field (R18). -/
theorem amendRecord_eq (s : State) (i : Fin 48) (o : Order) (force changes : Byte) (departure : Word) (target : Half)
    (band priority : Byte) (tag : Word) :
    let n := amendedOrder o (changesOf force changes departure target band priority tag)
    amendRecord s i o n = { o with
      departure := if changes.getLsbD 0 then departure.toNat else o.departure
      target := if changes.getLsbD 1 then max 160 (min 280 target.toInt) else o.target
      band := if changes.getLsbD 2 then max 3 (min 30 band.toNat) else o.band
      priority := n.priority
      tag := if changes.getLsbD 4 then tag else o.tag
      locked := o.locked && decide (force = 0)
      flags := { o.flags with noProfile := amendNoProfile s i o n } } := by
  intro n
  have departure' := amendedOrder_departure o force changes departure target band priority tag
  have tag' := amendedOrder_tag o force changes departure target band priority tag
  have target' : n.target = if changes.getLsbD 1 then max 160 (min 280 target.toInt) else o.target := by
    have field : n.target = (if changes.getLsbD 1 then some (targetOf target) else none).getD o.target := rfl
    rw [field]
    split <;> rfl
  have band' : n.band = if changes.getLsbD 2 then max 3 (min 30 band.toNat) else o.band := by
    have field : n.band = (if changes.getLsbD 2 then some (bandOf band) else none).getD o.band := rfl
    rw [field]
    split <;> rfl
  have locked' : n.locked = (o.locked && decide (force = 0)) := by rw [← not_flagByte]; rfl
  rw [← departure', ← tag', ← target', ← band', ← locked']
  rfl

theorem amendedOrder_priority (o : Order) (force changes : Byte) (departure : Word) (target : Half) (band priority : Byte)
    (tag : Word) (valid : changes.getLsbD 3 = true → priority.toNat ≤ 2) :
    (changes.getLsbD 3 = true →
        (amendedOrder o (changesOf force changes departure target band priority tag)).priority.code = priority.toNat)
      ∧ (changes.getLsbD 3 = false →
        (amendedOrder o (changesOf force changes departure target band priority tag)).priority = o.priority) := by
  have field : (amendedOrder o (changesOf force changes departure target band priority tag)).priority
      = (if changes.getLsbD 3 then priorityOf priority else none).getD o.priority := rfl
  rw [field]
  refine ⟨fun named => ?_, fun notNamed => by rw [notNamed]; rfl⟩
  obtain ⟨p, hp⟩ : ∃ p, priorityOf priority = some p := Option.ne_none_iff_exists'.1 fun none =>
    absurd ((priorityOf_none priority).1 none) (Nat.not_lt.2 (valid named))
  rw [if_pos named, hp]
  exact (priorityOf_iff priority p).1 hp

/-- Settles O17: the record written, and its place when the departure changed. -/
theorem amendWritesNamedFields : Obligations.AmendWritesNamedFields := by
  intro h force changes departure target band priority tag s i o sound passes
  obtain ⟨t, run, -, amended⟩ := amended_of_passes passes sound target band
  have hdep := amendedOrder_departure o force changes departure target band priority tag
  obtain ⟨named, kept⟩ := amendedOrder_priority o force changes departure target band priority tag passes.2.1
  have record := amendRecord_eq s i o force changes departure target band priority tag
  dsimp only at record
  generalize amendedOrder o (changesOf force changes departure target band priority tag) = n at *
  have dep : (amendRecord s i o n).departure = n.departure := rfl
  have slotOther (j : Fin 48) (hj : j ≠ i) : slotAt t j = reheadSlot (isHead s o.bay j) (isHead t o.bay j) (slotAt s j) := by
    rw [amended.slot, slotAt_putOrder, if_neg hj]
  have slotSelf : slotAt t i = reheadSlot (isHead s o.bay i) (isHead t o.bay i)
      { slotAt s i with order := some (amendRecord s i o n) } := by
    rw [amended.slot, slotAt_putOrder, if_pos rfl]
  refine ⟨_, amendNoProfile s i o n, n.priority, run, rfl, named, kept, ?_, fun ⟨hc, ne⟩ => ?_, fun same => ?_,
    amended.queueOther, fun j hj => ?_, fun j => ?_, ?_⟩
  · rw [← record, reheaded_eq]
    exact congrArg Slot.order slotSelf
  · exact amended.placed (by rwa [dep, hdep, if_pos hc])
  · refine amended.queue ?_
    rw [dep, hdep]
    rcases same with hc | hd
    · rw [hc]; rfl
    · rw [hd, ite_self]
  · rw [reheaded_eq]
    exact congrArg Slot.order (slotOther j hj)
  · by_cases e : j = i
    · subst e
      exact ⟨(congrArg Slot.gen slotSelf).trans rfl, (congrArg Slot.learnMark slotSelf).trans rfl,
        (congrArg Slot.changeMark slotSelf).trans rfl⟩
    · exact ⟨(congrArg Slot.gen (slotOther j e)).trans rfl, (congrArg Slot.learnMark (slotOther j e)).trans rfl,
        (congrArg Slot.changeMark (slotOther j e)).trans rfl⟩
  · obtain ⟨slots, queues, writes⟩ := amended.writes
    rw [writes]
    rfl

/-! ### The consultation at OPEN and at AMEND (R14, R19, R59) -/

/-- Settles O15: both commands end in `consult`, AMEND on the table with its new record. -/
theorem consultationAtOpenAndAmend : Obligations.ConsultationAtOpenAndAmend := by
  refine ⟨fun bay tag departure target band priority options s b p i sound profiles passes => ?_,
    fun h force changes departure target band priority tag s i o sound profiles passes => ?_⟩
  · obtain ⟨u, t, run, hu, written, fits, r⟩ := requeued_of_openPasses passes sound tag target band options
    have order : orderAt t i = some (reheadOrder (isHead u b i) (isHead t b i) (openedOrder s b p tag departure target band options)) := by
      rw [r.order, written.self]; rfl
    have exec' : exec (.openOrder bay tag departure target band priority options) s = .next (answer .ok (handleBytes s i) t) :=
      congrArg _ run
    refine ⟨_, _, exec', order, ?_⟩
    obtain ⟨slots, queues, writes⟩ := r.writes
    rw [reheadOrder_noProfile, answer_profiles, writes, hu, openFilled_writes]
    exact consult_spec profiles tag
  · obtain ⟨t, run, hprofiles, amended⟩ := amended_of_passes passes sound target band
    have htag := amendedOrder_tag o force changes departure target band priority tag
    have ho : orderAt s i = some o := passes.1.2.2
    generalize hn : amendedOrder o (changesOf force changes departure target band priority tag) = n at *
    have state : n.state = o.state := by rw [← hn]; rfl
    have kept : n.flags.noProfile = o.flags.noProfile := by rw [← hn]; rfl
    have order : orderAt t i = some (reheadOrder (isHead s o.bay i) (isHead t o.bay i) (amendRecord s i o n)) := by
      rw [orderAt, amended.slot, slotAt_putOrder, if_pos rfl]; rfl
    obtain ⟨list, writes, same, changed⟩ := amendWritten_writes s i o n
    have list' : t.profiles = list := hprofiles.trans (by rw [writes])
    refine ⟨_, _, run, order, fun named ne => ?_, fun unchanged => ?_⟩ <;> rw [reheadOrder_noProfile, answer_profiles, list']
    · rw [if_pos named] at htag
      have ne' : n.tag ≠ o.tag := htag.symm ▸ ne
      have decision : (amendRecord s i o n).flags.noProfile = (consult (putOrder s i n) n.tag).2 := if_pos ne'
      rw [changed ne', decision, htag]
      refine consults_congr (consult_spec (s := putOrder s i n) profiles tag) rfl fun a => exists_congr fun j => ?_
      by_cases e : j = i
      · simp [orderAt_setSlot, e, state, htag]
      · simp [orderAt_setSlot, orderAt_putOrder, e]
    · have eq : n.tag = o.tag := by
        rw [htag]
        rcases unchanged with hc | hd
        · rw [hc]; rfl
        · rw [hd, ite_self]
      exact ⟨same eq, (if_neg (not_not.2 eq)).trans kept⟩

end Sys2Proof.OrderTable
end

section
/-! Every step keeps the order table and the queues (R1, R7, R8, R43). -/

namespace Sys2Proof.OrderTable

open Sys2Proof.Machine Sys2Proof.Safety

/-! ### The order table as a whole -/

/-- The invariant: the queues of R7 and R8, the records of R1 with the tuning values the next OPEN reads, and every live order
departing after the clock (R43). -/
structure TableSound (s : State) : Prop where
  queues : QueuesSound s
  tuning : TuningSound s.tuning
  orders : ∀ i o, orderAt s i = some o → OrderSound o
  ahead : ∀ i o, orderAt s i = some o → o.state ≠ .closed → s.clock < o.departure

theorem tableSound_iff (s : State) : TableSound s ↔ QueuesSound s ∧ OrdersSound s ∧ DeparturesAhead s := by
  constructor
  · rintro ⟨queues, tuning, orders, ahead⟩
    exact ⟨queues, ⟨tuning, orders⟩, fun i o ho live => ahead i o ho ((live_iff o).1 live)⟩
  · rintro ⟨queues, ⟨tuning, orders⟩, ahead⟩
    exact ⟨queues, tuning, orders, fun i o ho live => ahead i o ho ((live_iff o).2 live)⟩

/-- `t` holds the orders, queues, clock and tuning values of `s`. -/
structure SameTable (s t : State) : Prop where
  order : ∀ i, orderAt t i = orderAt s i
  queue : ∀ b, queueAt t b = queueAt s b
  clock : t.clock = s.clock
  tuning : t.tuning = s.tuning

section
variable {s t : State}

theorem TableSound.same (h : TableSound s) (same : SameTable s t) : TableSound t := by
  refine ⟨(queuesSound_iff t).2 fun b => ?_, same.tuning ▸ h.tuning, fun i o ho => ?_, fun i o ho live => ?_⟩
  · exact ((queuesSound_iff s).1 h.queues b).congr (same.queue b) fun i o _ _ => by rw [same.order]
  · exact h.orders i o ((same.order i).symm.trans ho)
  · rw [same.clock]
    exact h.ahead i o ((same.order i).symm.trans ho) live

/-! ### One record rewritten -/

/-- The record `n` may stand for `o` in its place: the same bay and departure, CLOSED and QUEUED as it was, and sound. -/
structure RecordKept (o n : Order) : Prop where
  bay : n.bay = o.bay
  departure : n.departure = o.departure
  closed : n.state = .closed ↔ o.state = .closed
  queued : n.state = .queued ↔ o.state = .queued
  started : o.state = .queued → n.started = o.started
  sound : OrderSound o → OrderSound n

theorem orderWritten_setSlot (s : State) (i : Fin 48) {x : Slot} {n : Order} (hx : x.order = some n) :
    OrderWritten s (setSlot s i x) i n :=
  ⟨fun _ => rfl, by rw [orderAt_setSlot, if_pos rfl, hx], fun j hj => by rw [orderAt_setSlot, if_neg hj]⟩

theorem TableSound.setSlot (h : TableSound s) {i : Fin 48} {o n : Order} {x : Slot} (ho : orderAt s i = some o)
    (hx : x.order = some n) (kept : RecordKept o n) : TableSound (setSlot s i x) := by
  have w := orderWritten_setSlot s i hx
  refine ⟨queuesSound_of_written h.queues ho w kept.bay kept.departure kept.closed kept.queued kept.started, h.tuning,
    fun j q hq => ?_, fun j q hq live => ?_⟩ <;> by_cases e : j = i
  · subst e
    exact Option.some.inj (w.self.symm.trans hq) ▸ kept.sound (h.orders j o ho)
  · exact h.orders j q ((w.other j e).symm.trans hq)
  · subst e
    obtain rfl : n = q := Option.some.inj (w.self.symm.trans hq)
    exact kept.departure.symm ▸ h.ahead j o ho (mt kept.closed.2 live)
  · exact h.ahead j q ((w.other j e).symm.trans hq) live

theorem TableSound.putOrder (h : TableSound s) {i : Fin 48} {o n : Order} (ho : orderAt s i = some o) (kept : RecordKept o n) :
    TableSound (putOrder s i n) := h.setSlot ho rfl kept

/-- The head of a sound queue is neither QUEUED nor CLOSED. -/
theorem TableSound.head_state (h : TableSound s) {b : Fin 32} {i : Fin 48} {o : Order} (hd : headOrder s b = some (i, o)) :
    o.state ≠ .queued ∧ o.state ≠ .closed := by
  obtain ⟨hi, ho⟩ := (headOrder_iff s b i o).1 hd
  exact ⟨((queuesSound_iff s).1 h.queues b).head i o hi ho, (bay_of_mem_queue h.queues (List.mem_of_head? hi) ho).2⟩

theorem headOrder_order {b : Fin 32} {i : Fin 48} {o : Order} (hd : headOrder s b = some (i, o)) : orderAt s i = some o :=
  ((headOrder_iff s b i o).1 hd).2

/-- A live order that is not QUEUED may change to any state of that kind; TRIPPED needs a trip record (R159). -/
theorem recordKept_of_state {o : Order} (state : OrderState) (flags : OrderFlags) (trip : Option TripRecord)
    (before : o.state ≠ .queued ∧ o.state ≠ .closed) (after : state ≠ .queued ∧ state ≠ .closed)
    (tripped : OrderSound o → state = .tripped → trip.isSome) :
    RecordKept o { o with state := state, flags := flags, trip := trip } := by
  refine ⟨rfl, rfl, iff_of_false after.2 before.2, iff_of_false after.1 before.1, fun _ => rfl, fun sound => ?_⟩
  have recorded := tripped sound
  obtain ⟨target, band, departure, energy, remainder, started, closed, -⟩ := sound
  exact ⟨target, band, departure, energy, remainder, started, iff_of_false after.2 (mt closed.2 before.2), recorded⟩

/-! ### Head changes -/

theorem orderSound_reheadOrder {was is : Bool} {o : Order} (sound : OrderSound o) (live : was = is ∨ o.state ≠ .closed) :
    OrderSound (reheadOrder was is o) := by
  rcases live with rfl | live
  · rwa [reheadOrder_same]
  · obtain ⟨target, band, departure, energy, remainder, started, closed, tripped⟩ := sound
    have open' : ¬o.outcome.isSome := mt closed.2 live
    cases was <;> cases is
    · exact ⟨target, band, departure, energy, remainder, started, closed, tripped⟩
    · exact ⟨target, band, departure, energy, remainder, started, iff_of_false (by simp [reheadOrder]) open', by simp [reheadOrder]⟩
    · exact ⟨target, band, departure, energy, remainder, started, iff_of_false (by simp [reheadOrder]) open', by simp [reheadOrder]⟩
    · exact ⟨target, band, departure, energy, remainder, started, closed, tripped⟩

/-- A table whose queues are sound, and whose orders are sound ones after head changes, is sound. -/
theorem tableSound_of_reheads {w : State} (reheads : Reheads w t) (queues : QueuesSound t) (tuning : TuningSound t.tuning)
    (orders : ∀ i o, orderAt w i = some o → OrderSound o)
    (ahead : ∀ i o, orderAt w i = some o → o.state ≠ .closed → t.clock < o.departure) : TableSound t := by
  refine ⟨queues, tuning, fun i q hq => ?_, fun i q hq live => ?_⟩
  · obtain ⟨o, was, is, ho, change, rfl⟩ := reheads i q hq
    exact orderSound_reheadOrder (orders i o ho) change
  · obtain ⟨o, was, is, ho, change, rfl⟩ := reheads i q hq
    rw [reheadOrder_departure]
    refine ahead i o ho fun closed => ?_
    rcases change with rfl | change
    · exact live (by rwa [reheadOrder_same])
    · exact change closed

/-- The properties of the orders after one record has been written. -/
theorem OrderWritten.forall_order {P : Order → Prop} {i : Fin 48} {n : Order} (w : OrderWritten s t i n)
    (all : ∀ j o, orderAt s j = some o → P o) (self : P n) : ∀ j o, orderAt t j = some o → P o := by
  intro j o ho
  by_cases e : j = i
  · subst e
    exact Option.some.inj (w.self.symm.trans ho) ▸ self
  · exact all j o ((w.other j e).symm.trans ho)

/-! ### Orders that leave their queues -/

theorem Left.reheads {gone : List (Fin 48)} {s w t : State} (sound : QueuesSound s) (written : RecordsClosed gone s w)
    (left : Left gone w t) : Reheads w t := by
  intro i q hq
  by_cases hg : i ∈ gone
  · exact ⟨q, false, false, (congrArg Slot.order (left.slotGone i hg)).symm.trans hq, .inl rfl, rfl⟩
  cases ho : orderAt w i with
  | none =>
    have : orderAt t i = none := (congrArg Slot.order (left.slotEmpty i ho)).trans ho
    simp [this] at hq
  | some o =>
    have slot := left.slotStays i o hg ho
    have hq' : reheadOrder (isHead w o.bay i) (isHead t o.bay i) o = q := by
      have order : (slotAt w i).order = some o := ho
      rw [orderAt, slot, reheadSlot_order, order, Option.map_some, Option.some.injEq] at hq
      exact hq
    refine ⟨o, _, _, rfl, ?_, hq'.symm⟩
    by_cases mem : i ∈ queueAt w o.bay
    · rw [written.queue] at mem
      exact .inr (bay_of_mem_queue sound mem ((written.stays i hg).symm.trans ho)).2
    · refine .inl ?_
      rw [isHead_eq_false mem, isHead_eq_false fun m => mem ?_]
      rw [left.queue] at m
      exact (mem_queueLeft.1 m).1

/-- The queues left are sound again: each is part of a sound queue, and a new head was promoted. -/
theorem Left.queuesSound {gone : List (Fin 48)} {s w t : State} (sound : QueuesSound s) (written : RecordsClosed gone s w)
    (left : Left gone w t) : QueuesSound t := by
  rw [queuesSound_iff]
  intro b
  have h := (queuesSound_iff s).1 sound b
  have queue : queueAt t b = queueLeft s b gone := by rw [left.queue, queueLeft, written.queue]; rfl
  have mem (i : Fin 48) : i ∈ queueAt t b ↔ i ∈ queueAt s b ∧ i ∉ gone := by rw [queue, mem_queueLeft]
  have order {i : Fin 48} (hi : i ∈ queueAt t b) : ∃ o, LiveOrder s b i o
      ∧ orderAt t i = some (reheadOrder (isHead s b i) (isHead t b i) o) := by
    obtain ⟨hs, hg⟩ := (mem i).1 hi
    obtain ⟨o, ho, rfl, live⟩ := h.live hs
    have ho' : orderAt w i = some o := (written.stays i hg).trans ho
    refine ⟨o, ⟨ho, rfl, live⟩, ?_⟩
    rw [orderAt, left.slotStays i o hg ho', isHead_congr (written.queue _)]
    exact congrArg (Option.map _) ho'
  have headStays {i : Fin 48} (hi : HeadOf s b i) (hg : i ∉ gone) : HeadOf t b i := by
    rw [HeadOf, queue, head_queueLeft_of_head_stays]
    · exact hi
    · intro j hj
      exact Option.some.inj (hi.symm.trans hj) ▸ hg
  refine ⟨?_, fun i => ?_, ?_, fun i q hi hq => ?_, fun i q hi notHead hq => ?_⟩
  · rw [queue]
    exact (List.length_filter_le _ _).trans h.length
  · constructor
    · intro hi
      obtain ⟨o, ⟨-, hb, live⟩, ho⟩ := order hi
      exact ⟨_, ho, (reheadOrder_bay _ _ o).trans hb, reheadOrder_live live⟩
    · rintro ⟨q, hq, hb, live⟩
      rw [mem]
      have hg : i ∉ gone := fun hg => by
        obtain ⟨-, c, -, hc, -, closed⟩ := written.closed i hg
        have : orderAt t i = some c := (congrArg Slot.order (left.slotGone i hg)).trans hc
        rw [hq, Option.some.injEq] at this
        exact live (this ▸ closed)
      obtain ⟨o, was, is, ho, change, rfl⟩ := left.reheads sound written i q hq
      refine ⟨h.mem_of_live ⟨(written.stays i hg).symm.trans ho, (reheadOrder_bay was is o).symm.trans hb, fun closed => ?_⟩, hg⟩
      rcases change with rfl | change
      · exact live (by rwa [reheadOrder_same])
      · exact change closed
  · have departure (i : Fin 48) (hi : i ∈ queueAt t b) : departureAt t i = departureAt s i := by
      obtain ⟨o, live, ho⟩ := order hi
      rw [departureAt_of_order ho, departureAt_of_order live.1, reheadOrder_departure]
    have apart : (queueAt t b).Pairwise fun i j => departureAt s i + 900 ≤ departureAt s j := queue ▸ h.apart.filter _
    exact apart.imp_of_mem fun {i j} hi hj le => by rwa [departure i hi, departure j hj]
  · have hi' := List.mem_of_head? hi
    obtain ⟨o, ⟨ho, -⟩, hq'⟩ := order hi'
    rw [hq, isHead_iff.2 hi, Option.some.injEq] at hq'
    rw [hq']
    by_cases was : HeadOf s b i
    · rw [isHead_iff.2 was, reheadOrder_same]
      exact h.head i o was ho
    · rw [Bool.eq_false_iff.2 (isHead_iff.not.2 was)]
      simp [reheadOrder]
  · obtain ⟨hs, hg⟩ := (mem i).1 hi
    obtain ⟨o, ⟨ho, -⟩, hq'⟩ := order hi
    have wasNot : ¬HeadOf s b i := fun was => notHead (headStays was hg)
    rw [hq, Bool.eq_false_iff.2 (isHead_iff.not.2 notHead), Bool.eq_false_iff.2 (isHead_iff.not.2 wasNot), reheadOrder_same,
      Option.some.injEq] at hq'
    exact hq' ▸ h.behind i o hs wasNot ho

theorem orderSound_closedAs {o : Order} (sound : OrderSound o) (now : Nat) (cabin : Option Int) (kind : OutcomeKind) :
    OrderSound (closedAs now cabin kind o) := by
  obtain ⟨target, band, departure, energy, remainder, started, -, -⟩ := sound
  exact ⟨target, band, departure, energy, remainder, started, iff_of_true rfl rfl, fun n => by cases n⟩

/-- Closing one order keeps the table sound (R10). -/
theorem TableSound.closeOrder (h : TableSound s) (i : Fin 48) (kind : OutcomeKind) : TableSound (closeOrder s i kind) := by
  cases ho : orderAt s i with
  | none => simpa [Machine.closeOrder, ho] using h
  | some o =>
    rw [closeOrder_of_order ho, closedOrder_eq]
    generalize hc : closedAs s.clock ((bayAt s o.bay).tele.map (·.cabin)) kind o = c
    have written : RecordsClosed [i] s (Machine.putOrder s i c) := recordsClosed_putOrder ho (by rw [← hc]; rfl) (by rw [← hc]; rfl)
    have left : Left [i] (Machine.putOrder s i c) (leaveQueue (Machine.putOrder s i c) o.bay [i]) :=
      left_foldl [o.bay] (written.leaving h.queues) fun b j hb hj => by
        rw [List.mem_singleton] at hb ⊢
        rintro rfl
        exact hb (bay_of_mem_queue h.queues hj ho).1.symm
    have w : OrderWritten s (Machine.putOrder s i c) i c := orderWritten_setSlot s i rfl
    have tableW : TableSound (leaveQueue (Machine.putOrder s i c) o.bay [i]) := by
      obtain ⟨slots, queues, bays, hw⟩ := leaveQueue_writes (Machine.putOrder s i c) o.bay [i]
      refine tableSound_of_reheads (left.reheads h.queues written) (left.queuesSound h.queues written) (by rw [hw]; exact h.tuning)
        (w.forall_order h.orders ?_) ?_
      · exact hc ▸ orderSound_closedAs (h.orders i o ho) _ _ _
      · rw [hw]
        exact w.forall_order (P := fun q => q.state ≠ .closed → s.clock < q.departure) h.ahead
          fun live => absurd (by rw [← hc]; rfl) live
    exact tableW.same ⟨fun _ => rfl, fun _ => rfl, rfl, rfl⟩

/-- Expiry leaves a sound table, whatever the clock was set to (R27). -/
theorem tableSound_expire (queues : QueuesSound s) (tuning : TuningSound s.tuning)
    (orders : ∀ i o, orderAt s i = some o → OrderSound o) : TableSound (expire s) := by
  obtain ⟨u, left, hu⟩ := expire_spec queues
  have written := recordsClosed_closeExpired s
  obtain ⟨slots', queues', bays', flags', writes⟩ := expire_writes s
  have same : SameTable (expire s) u := by
    have clock : (expire s).clock = u.clock := by rw [hu]
    have tuning : (expire s).tuning = u.tuning := by rw [hu]
    exact ⟨fun i => by rw [hu]; rfl, fun b => by rw [hu]; rfl, clock.symm, tuning.symm⟩
  have back : SameTable u (expire s) :=
    ⟨fun i => (same.order i).symm, fun b => (same.queue b).symm, same.clock.symm, same.tuning.symm⟩
  have clock : u.clock = s.clock := same.clock.trans (by rw [writes])
  have tuning' : u.tuning = s.tuning := same.tuning.trans (by rw [writes])
  refine TableSound.same (tableSound_of_reheads (left.reheads queues written) (left.queuesSound queues written)
    (tuning' ▸ tuning) (fun i o ho => ?_) fun i o ho live => ?_) back
  · by_cases due : i ∈ expiring s
    · obtain ⟨q, hq, -⟩ := mem_expiring.1 due
      rw [orderAt, slotAt_closeExpired_due hq due, Option.some.injEq] at ho
      exact ho ▸ orderSound_closedAs (orders i q hq) _ _ _
    · exact orders i o ((written.stays i due).symm.trans ho)
  · by_cases due : i ∈ expiring s
    · obtain ⟨q, hq, -⟩ := mem_expiring.1 due
      rw [orderAt, slotAt_closeExpired_due hq due, Option.some.injEq] at ho
      exact absurd (by rw [← ho]; rfl) live
    · have ho' := (written.stays i due).symm.trans ho
      rw [mem_expiring_iff_of_order ho'] at due
      rw [clock]
      exact Nat.lt_of_not_le fun le => due ⟨live, le⟩

end

/-! ### The shared operations keep the table sound -/

section
variable {s : State}

/-- A state with the slots, queues, clock and tuning values of a sound one is sound. -/
theorem TableSound.frame {t : State} (h : TableSound s) (slots : t.slots = s.slots) (queues : t.queues = s.queues)
    (clock : t.clock = s.clock) (tuning : t.tuning = s.tuning) : TableSound t :=
  h.same ⟨fun i => by rw [orderAt, slotAt, slots]; rfl, fun b => by rw [queueAt, queues]; rfl, clock, tuning⟩

theorem TableSound.answer (h : TableSound s) (code : RespCode) (payload : List Byte) : TableSound (answer code payload s) :=
  h.frame rfl rfl rfl rfl

theorem TableSound.refuse (h : TableSound s) (code : RespCode) : TableSound (refuse code s) := h.answer code []

theorem TableSound.raise (h : TableSound s) (f : EventFlag) : TableSound (raise f s) := h.frame rfl rfl rfl rfl

theorem TableSound.setBay (h : TableSound s) (b : Fin 32) (x : Bay) : TableSound (setBay s b x) :=
  h.frame rfl rfl rfl rfl

theorem TableSound.mapBays (h : TableSound s) (f : Fin 32 → Bay → Bay) : TableSound (mapBays f s) :=
  h.frame (mapBays_slots f s) (mapBays_queues f s) (mapBays_clock f s) (mapBays_tuning f s)

theorem TableSound.placeFirst (h : TableSound s) (p : Profile) : TableSound (placeFirst s p) := h.frame rfl rfl rfl rfl

theorem TableSound.zeroPending (h : TableSound s) (b : Fin 32) : TableSound (zeroPending s b) := h.setBay b _

/-- A pass that starts clears change marks and leaves the records (R94). -/
theorem TableSound.startPass (h : TableSound s) : TableSound (startPass s) := by
  refine h.same ⟨fun i => (congrArg Slot.order ((startPass_spec s).2 i)).trans rfl, fun b => ?_, ?_, ?_⟩
  · simp only [Machine.startPass, queueAt, mapSlots_queues]
  · simp only [Machine.startPass, mapSlots_clock]
  · simp only [Machine.startPass, mapSlots_tuning]

theorem TableSound.requestPass (h : TableSound s) : TableSound (requestPass s) := by
  unfold Machine.requestPass
  split
  · exact h.frame rfl rfl rfl rfl
  · exact h.startPass

theorem TableSound.endPass (h : TableSound s) : TableSound (endPass s) := by
  unfold Machine.endPass
  split
  · exact TableSound.startPass (h.frame rfl rfl rfl rfl)
  · exact h.frame rfl rfl rfl rfl

theorem TableSound.beginAllstop (h : TableSound s) : TableSound (beginAllstop s) := by
  obtain ⟨_, _, _, writes⟩ := beginAllstop_writes s
  rw [writes]
  exact h.frame rfl rfl rfl rfl

theorem TableSound.goOn (h : TableSound s) (n : Nat) : TableSound (goOn s n) := by
  obtain ⟨_, _, _, _, _, _, _, writes⟩ := goOn_writes s n
  rw [writes]
  exact h.frame rfl rfl rfl rfl

theorem TableSound.requestAllstop (h : TableSound s) (list : Word) : TableSound (requestAllstop list s) := by
  obtain ⟨_, _, _, _, _, _, writes⟩ := requestAllstop_writes list s
  rw [writes]
  exact h.frame rfl rfl rfl rfl

/-! ### Curtailment and the trips -/

/-- Step 1 and 2 of R151 pause an ACTIVE or HOLDING head. -/
theorem TableSound.curtailBay (h : TableSound s) (b : Fin 32) : TableSound (curtailBay s b) := by
  unfold Machine.curtailBay
  split
  · refine TableSound.zeroPending ?_ b
    unfold Machine.pauseHead
    split
    · exact h
    · next i o hd =>
      refine h.putOrder (headOrder_order hd) ?_
      exact recordKept_of_state (.paused .curtail) o.flags o.trip (h.head_state hd) (by simp) fun _ n => by cases n
  · exact h

theorem TableSound.curtailArrival (h : TableSound s) : TableSound (curtailArrival s) := by
  have paused : TableSound (allBays.foldl Machine.curtailBay s) :=
    foldl_keeps TableSound _ (fun _ b h => h.curtailBay b) _ _ h
  have requested := paused.requestAllstop (allstopList s)
  refine TableSound.raise ?_ _
  unfold arrivalPass
  split
  · exact TableSound.startPass (requested.frame rfl rfl rfl rfl)
  · exact requested.startPass

theorem TableSound.judgeCurtailment (h : TableSound s) (before : Bool) : TableSound (judgeCurtailment before s) := by
  unfold Machine.judgeCurtailment
  split
  · exact h
  · split
    · exact h.curtailArrival
    · exact h.requestPass.raise _

theorem TableSound.curtLineChange (h : TableSound s) (level : Bool) : TableSound (curtLineChange level s) := by
  unfold Machine.curtLineChange
  dsimp only
  split
  · exact h.frame rfl rfl rfl rfl
  · have filtered : TableSound { s with curt := s.curt.settle level, lineState := level } := h.frame rfl rfl rfl rfl
    exact filtered.judgeCurtailment _

theorem TableSound.sampleLine (h : TableSound s) : TableSound (sampleLine s) := by
  unfold Machine.sampleLine
  split
  · exact TableSound.curtailArrival (h.frame rfl rfl rfl rfl)
  · exact h.frame rfl rfl rfl rfl

/-- A cause trips the head, joins its trip record, or changes nothing (R158 to R160). -/
theorem TableSound.handleCause (h : TableSound s) (b : Fin 32) (c : Cause) : TableSound (handleCause b s c) := by
  unfold Machine.handleCause
  split
  · exact h
  next i o hd =>
  have before := h.head_state hd
  have ho := headOrder_order hd
  split
  · exact h
  split
  · next tripped =>
    refine h.putOrder ho ?_
    refine recordKept_of_state o.state o.flags (o.trip.map fun r => r.addLater c) before before fun sound n => ?_
    obtain ⟨-, -, -, -, -, -, -, recorded⟩ := sound
    simpa using recorded n
  · split
    · refine TableSound.raise (TableSound.zeroPending (h.setSlot ho rfl ?_) b) _
      exact recordKept_of_state .tripped _ (some (newTrip s b c)) before (by simp) fun _ _ => rfl
    · exact h

theorem TableSound.protectArrival (h : TableSound s) (b : Fin 32) (t : Telemetry) : TableSound (protectArrival s b t) :=
  foldl_keeps TableSound _ (fun _ c h => h.handleCause b c) _ _ (h.setBay b _)

/-! ### Arrivals and misses -/

theorem recordKept_addEnergy (o : Order) (power dt : Nat) : RecordKept o (addEnergy o power dt) := by
  refine ⟨rfl, rfl, Iff.rfl, Iff.rfl, fun _ => rfl, fun sound => ?_⟩
  obtain ⟨target, band, departure, -, -, started, closed, tripped⟩ := sound
  exact ⟨target, band, departure, Nat.min_le_right _ _, Nat.mod_lt _ (by decide), started, closed, tripped⟩

theorem TableSound.accumulate (h : TableSound s) (b : Fin 32) (power : Nat) (prev : Option Nat) :
    TableSound (accumulate s b power prev) := by
  unfold Machine.accumulate
  split
  · exact h
  next i o hd =>
  split
  · exact h.putOrder (headOrder_order hd) (recordKept_addEnergy o _ _)
  · exact h

theorem TableSound.testUnplug (h : TableSound s) (b : Fin 32) (t : Telemetry) : TableSound (testUnplug s b t) := by
  unfold Machine.testUnplug
  split
  · exact h
  split
  · exact h.closeOrder _ _
  · exact h

theorem TableSound.validArrival (h : TableSound s) (b : Fin 32) (seqSent echo : Nat) (t : Telemetry) :
    TableSound (validArrival s b seqSent echo t) :=
  (((h.setBay b _).protectArrival b t).accumulate b _ _).testUnplug b t

theorem TableSound.miss (h : TableSound s) (b : Fin 32) : TableSound (miss s b) := by
  unfold Machine.miss
  dsimp only
  split
  · exact h
  · exact h.setBay b _
  all_goals
    split
    · exact TableSound.handleCause ((h.setBay b _).raise _) b _
    · exact h.setBay b _

theorem TableSound.windowClose (h : TableSound s) (chars : List RxChar) : TableSound (windowClose chars s) := by
  unfold Machine.windowClose
  split
  · exact h
  next x hx =>
  have closed : TableSound { s with exchange := none } := h.frame rfl rfl rfl rfl
  have judged : TableSound (match judgeReply x.bay chars with
      | .miss _ => Machine.miss { s with exchange := none } x.bay
      | .valid echo t => Machine.validArrival { s with exchange := none } x.bay x.seqSent echo t) := by
    split
    · exact closed.miss _
    · exact closed.validArrival _ _ _ _
  dsimp only
  split
  · exact judged
  · exact judged.goOn _

/-! ### A publish -/

@[simp] theorem evaluated_planned : OrderState.planned.evaluated = true := rfl
@[simp] theorem evaluated_active : OrderState.active.evaluated = true := rfl
@[simp] theorem evaluated_holding : OrderState.holding.evaluated = true := rfl
@[simp] theorem evaluated_paused (r : PauseReason) : (OrderState.paused r).evaluated = true := rfl

@[simp] theorem evaluated_runningState (state : OrderState) (target cabin : Int) (band : Nat) :
    (runningState state target cabin band).evaluated = true := by
  simp only [runningState]
  generalize (if state = .holding then band + 5 else band) = allowed
  split
  · exact evaluated_holding
  · exact evaluated_active

@[simp] theorem evaluated_checksWithTele (snap : Snapshot) (h : SnapHead) (e : Eval) (t : Telemetry) :
    (checksWithTele snap h e t).evaluated = true := by
  unfold checksWithTele
  dsimp only
  repeat' split
  all_goals simp

/-- A pass makes a head PLANNED, PAUSED, ACTIVE or HOLDING (R79). -/
theorem evaluated_newState (snap : Snapshot) (h : SnapHead) (e : Eval) : (newState snap h e).evaluated = true := by
  unfold newState
  repeat' split
  all_goals simp

theorem evaluated_ne {state : OrderState} (h : state.evaluated = true) :
    (state ≠ .queued ∧ state ≠ .closed) ∧ state ≠ .tripped := by
  cases state <;> simp [OrderState.evaluated] at h ⊢

end

section
variable {s : State}

theorem recordKept_of_flags (o : Order) (flags : OrderFlags) (locked : Bool) :
    RecordKept o { o with flags := flags, locked := locked } :=
  ⟨rfl, rfl, Iff.rfl, Iff.rfl, fun _ => rfl, id⟩

/-- The record of an applied result (R95). -/
theorem recordKept_write (r : PassResult) (now : Nat) {o : Order} (evaluated : r.newState.evaluated = true)
    (before : o.state ≠ .queued ∧ o.state ≠ .closed) : RecordKept o (r.write now o) := by
  obtain ⟨after, notTripped⟩ := evaluated_ne evaluated
  refine ⟨rfl, rfl, iff_of_false after.2 before.2, iff_of_false after.1 before.1, fun queued => absurd queued before.1,
    fun sound => ?_⟩
  obtain ⟨target, band, departure, energy, remainder, started, closed, -⟩ := sound
  refine ⟨target, band, departure, energy, remainder, ?_, iff_of_false after.2 (mt closed.2 before.2),
    fun tripped => absurd tripped notTripped⟩
  cases starts : r.starts with
  | true => simp [PassResult.write, starts]
  | false => simpa [PassResult.write, starts] using started

theorem TableSound.learningPoint (h : TableSound s) (now : Nat) (r : PassResult) {o : Order} (ho : orderAt s r.head.slot = some o) :
    TableSound (learningPoint s now r o) := by
  unfold Machine.learningPoint
  dsimp only
  have marked : TableSound (Machine.setSlot s r.head.slot { slotAt s r.head.slot with learnMark := true }) :=
    h.setSlot ho ho (recordKept_of_flags o o.flags o.locked)
  split
  · exact marked
  · next p _ =>
    refine (marked.placeFirst p).putOrder (o := o) ?_ (recordKept_of_flags o _ o.locked)
    exact (orderAt_setSlot s r.head.slot r.head.slot _).trans ((if_pos rfl).trans ho)

theorem TableSound.applyResult (h : TableSound s) (now : Nat) {r : PassResult} (evaluated : r.newState.evaluated = true)
    (applies : resultApplies s r = true) : TableSound (applyResult s now r) := by
  unfold Machine.applyResult
  split
  · exact h
  next o ho =>
  simp only [resultApplies, Bool.and_eq_true, beq_iff_eq] at applies
  obtain ⟨⟨⟨-, head⟩, -⟩, -⟩ := applies
  have before := h.head_state ((headOrder_iff s r.head.bay r.head.slot o).2 ⟨head, ho⟩)
  have written := h.putOrder ho (recordKept_write r now evaluated before)
  dsimp only
  split
  · exact written.learningPoint now r (orderAt_putOrder_self s _ _)
  · exact written

theorem TableSound.applyResults (h : TableSound s) (now : Nat) (rs : List PassResult)
    (evaluated : ∀ r ∈ rs, r.newState.evaluated = true) : TableSound (applyResults now s rs).1 := by
  induction rs generalizing s with
  | nil => exact h
  | cons r rest ih =>
    have rest' : ∀ r ∈ rest, r.newState.evaluated = true := fun r hr => evaluated r (List.mem_cons_of_mem _ hr)
    unfold Machine.applyResults
    split
    · next applies => exact ih (h.applyResult now (evaluated r List.mem_cons_self) applies) rest'
    · exact ih h rest'

theorem evaluated_passResults (snap : Snapshot) : ∀ r ∈ passResults snap, r.newState.evaluated = true := by
  intro r hr
  simp only [passResults, List.map_map, List.mem_map, Function.comp_apply] at hr
  obtain ⟨head, -, rfl⟩ := hr
  have state : ((judgeHead snap head).result (distribute snap ((snap.heads.map (judgeHead snap)).filterMap (Judged.share snap)))).newState
      = newState snap head (evalHead snap head) := by
    unfold Judged.result
    repeat' split
    all_goals rfl
  rw [state]
  exact evaluated_newState snap head _

theorem TableSound.publishPass (h : TableSound s) : TableSound (publishPass s) := by
  unfold Machine.publishPass
  split
  · exact h
  next p _ =>
  dsimp only
  refine TableSound.endPass ?_
  have done := h.applyResults p.snap.now (passResults p.snap) (evaluated_passResults p.snap)
  have granted : TableSound (allBays.foldl (publishGrant (Machine.applyResults p.snap.now s (passResults p.snap)).2)
      (Machine.applyResults p.snap.now s (passResults p.snap)).1) := by
    obtain ⟨bays, writes⟩ := publishGrants_writes (Machine.applyResults p.snap.now s (passResults p.snap)).2 allBays
      (Machine.applyResults p.snap.now s (passResults p.snap)).1
    rw [writes]
    exact done.frame rfl rfl rfl rfl
  split
  · exact granted.raise _
  · exact granted

/-! ### The clock, the tuning values and the resets -/

theorem TableSound.setClock (h : TableSound s) (now : Nat) : TableSound (expire { s with clock := now, phase := 0 }) :=
  tableSound_expire h.queues h.tuning h.orders

theorem TableSound.clockAdvance (h : TableSound s) : TableSound (clockAdvance s) := by
  unfold Machine.clockAdvance
  split
  · exact h.frame rfl rfl rfl rfl
  · exact h.setClock _

theorem TableSound.loadStaleTransition (h : TableSound s) : TableSound (loadStaleTransition s) := by
  unfold Machine.loadStaleTransition
  split
  · exact h
  · exact h.frame rfl rfl rfl rfl

theorem tuningSound_tuningOf (period dead lead stale : Half) (selection band : Byte) :
    TuningSound (tuningOf period dead lead stale selection band) := by
  simp only [TuningSound, tuningOf, clamp]
  omega

theorem TableSound.setTuning (h : TableSound s) {t : Tuning} (tuning : TuningSound t) : TableSound (setTuning t s) := by
  have written : TableSound { s with tuning := t } := ⟨h.queues, tuning, h.orders, h.ahead⟩
  refine TableSound.answer ?_ _ _
  split
  · exact written.loadStaleTransition
  · exact written

/-- A table without orders is sound. -/
theorem tableSound_of_empty (slots : ∀ i, orderAt s i = none) (queues : ∀ b, queueAt s b = []) (tuning : TuningSound s.tuning) :
    TableSound s := by
  refine ⟨(queuesSound_iff s).2 fun b => ?_, tuning, fun i o ho => by simp [slots] at ho, fun i o ho => by simp [slots] at ho⟩
  refine ⟨by simp [queues], fun i => ?_, by simp [queues], fun i o _ ho => by simp [slots] at ho, fun i o _ _ ho => by simp [slots] at ho⟩
  simp [queues, LiveOrder, slots]

theorem orderAt_reset (i : Fin 48) : orderAt State.reset i = none := by simp [orderAt, slotAt, State.reset, Slot.initial]

theorem queueAt_reset (b : Fin 32) : queueAt State.reset b = [] := by simp [queueAt, State.reset]

theorem tableSound_reset : TableSound State.reset :=
  tableSound_of_empty orderAt_reset queueAt_reset (by simp [TuningSound, State.reset, Tuning.initial])

theorem tableSound_powerOnReset (curt : Bool) (s : State) : TableSound (powerOnReset curt s) :=
  TableSound.sampleLine (tableSound_reset.frame rfl rfl rfl rfl)

theorem tableSound_pinReset (curt : Bool) (s : State) : TableSound (pinReset curt s) :=
  TableSound.sampleLine (tableSound_reset.frame rfl rfl rfl rfl)

theorem TableSound.softReset (h : TableSound s) : TableSound (softReset s) := by
  refine TableSound.sampleLine (TableSound.mapBays (tableSound_of_empty (fun i => ?_) (fun b => ?_) ?_) _)
  · rw [orderAt, slotAt_mapSlots]; rfl
  · simp [queueAt, mapSlots_queues]
  · rw [mapSlots_tuning]; exact h.tuning

/-! ### OPEN and AMEND -/

/-- A list of checks that ends in another answer than a check's own has passed that check. -/
theorem firstOf_pass {α : Type} {p : Prop} {v d a : α} {rest : List (Prop × α)} (h : FirstOf ((p, v) :: rest) d a) (ne : a ≠ v) :
    ¬p ∧ FirstOf rest d a := h.resolve_left fun hit => ne hit.2

/-- OPEN is refused, or its checks pass. -/
theorem open_refused_or_passes (queues : QueuesSound s) (bay : Byte) (tag departure : Word) (target : Half)
    (band priority options : Byte) :
    (∃ code, exec (.openOrder bay tag departure target band priority options) s = .next (refuse code s))
      ∨ ∃ b p i, OpenPasses s bay priority departure b p i := by
  obtain ⟨t, run, first, refused⟩ := openChecksInOrder bay tag departure target band priority options s queues
  by_cases ok : t.response.code = .ok
  · rw [ok] at first
    obtain ⟨value, first⟩ := firstOf_pass first (by simp)
    obtain ⟨time, first⟩ := firstOf_pass first (by simp)
    obtain ⟨room, first⟩ := firstOf_pass first (by simp)
    obtain ⟨full, first⟩ := firstOf_pass first (by simp)
    obtain ⟨conflict, -⟩ := firstOf_pass first (by simp)
    rw [not_or, Nat.not_lt, Nat.not_lt] at value time
    obtain ⟨p, hp⟩ : ∃ p, priorityOf priority = some p := Option.ne_none_iff_exists'.1 fun none =>
      absurd ((priorityOf_none priority).1 none) (Nat.not_lt.2 value.2)
    push Not at room
    obtain ⟨i, empty, lowest⟩ := WellFounded.has_min (wellFounded_lt (α := Fin 48)) {i | orderAt s i = none} room
    have b_lt : bay.toNat < 32 := by omega
    refine .inr ⟨⟨bay.toNat, b_lt⟩, p, i, rfl, (priorityOf_iff priority p).1 hp, time.1, time.2, empty,
      fun j lt none => lowest j none lt, Nat.lt_of_not_le fun le => full ⟨_, rfl, le⟩, fun j o live => ?_, fun j o hj ho hf => ?_⟩
    · exact Nat.le_of_not_lt fun near => conflict ⟨_, rfl, .inl ⟨j, o, live, near⟩⟩
    · exact Nat.le_of_not_lt fun ahead => conflict ⟨_, rfl, .inr ⟨j, o, hj, ho, hf, ahead⟩⟩
  · exact .inl ⟨_, run.trans (congrArg _ (refused ok))⟩

theorem targetOf_range (w : Half) : 160 ≤ targetOf w ∧ targetOf w ≤ 280 := by
  simp only [targetOf, clampInt]
  omega

theorem bandOf_range (b : Byte) : 3 ≤ bandOf b ∧ bandOf b ≤ 30 := by
  simp only [bandOf, clamp]
  omega

theorem word_le_clockMax (w : Word) : w.toNat ≤ clockMax := by
  have := w.isLt
  simp only [clockMax]
  omega

theorem orderSound_openedOrder (tuning : TuningSound s.tuning) (b : Fin 32) (p : Priority) (tag departure : Word) (target : Half)
    (band options : Byte) : OrderSound (openedOrder s b p tag departure target band options) := by
  refine ⟨targetOf_range target, ?_, word_le_clockMax departure, Nat.zero_le _, Nat.zero_lt_succ _, ?_, ?_, fun n => by cases n⟩
  · have field : (openedOrder s b p tag departure target band options).band
        = if namedBit options 1 then bandOf band else s.tuning.band := rfl
    obtain ⟨-, -, -, -, range⟩ := tuning
    rw [field]
    split
    · exact bandOf_range band
    · exact range
  · exact iff_of_false (by simp [openedOrder, newOrder]) (by simp [openedOrder, newOrder])
  · exact iff_of_false (by simp [openedOrder, newOrder]) (by simp [openedOrder, newOrder])

theorem TableSound.openOrder (h : TableSound s) (bay : Byte) (tag departure : Word) (target : Half) (band priority options : Byte) :
    TableSound (openOrder bay tag departure target band priority options s) := by
  rcases open_refused_or_passes h.queues bay tag departure target band priority options with ⟨code, run⟩ | ⟨b, p, i, passes⟩
  · have : Machine.openOrder bay tag departure target band priority options s = Machine.refuse code s := by
      simpa [exec, execOpenOrder] using run
    rw [this]
    exact h.refuse code
  · obtain ⟨u, t, run, hu, written, fits, r⟩ := requeued_of_openPasses passes h.queues tag target band options
    have place := placeable_of_written h.queues written fits
    obtain ⟨slots, queues, writes⟩ := r.writes
    have clock : t.clock = s.clock := by rw [writes, hu, openFilled_writes]; rfl
    have tuning : t.tuning = s.tuning := by rw [writes, hu, openFilled_writes]; rfl
    rw [run]
    refine TableSound.answer (tableSound_of_reheads (r.reheads place) (queuesSound_of_requeued h.queues written fits r)
      (tuning ▸ h.tuning) (written.forall_order h.orders (orderSound_openedOrder h.tuning ..)) ?_) _ _
    rw [clock]
    refine written.forall_order (P := fun o => o.state ≠ .closed → s.clock < o.departure) h.ahead fun _ => ?_
    have early := passes.2.2.1
    show s.clock < departure.toNat
    omega

/-- AMEND is refused, or its checks pass. -/
theorem amend_refused_or_passes (queues : QueuesSound s) (h : WireHandle) (force changes : Byte) (departure : Word) (target : Half)
    (band priority : Byte) (tag : Word) :
    (∃ code, exec (.amend h force changes departure target band priority tag) s = .next (refuse code s))
      ∨ ∃ i o, AmendPasses s h force changes departure priority tag i o := by
  obtain ⟨t, run, first, refused⟩ := amendChecksInOrder h force changes departure target band priority tag s queues
  by_cases ok : t.response.code = .ok
  · rw [ok] at first
    obtain ⟨value, first⟩ := firstOf_pass first (by simp)
    obtain ⟨named, first⟩ := firstOf_pass first (by simp)
    obtain ⟨i, o, hn⟩ := not_not.1 named
    obtain ⟨closed, first⟩ := firstOf_pass first (by simp)
    obtain ⟨locked, first⟩ := firstOf_pass first (by simp)
    obtain ⟨started, first⟩ := firstOf_pass first (by simp)
    obtain ⟨time, first⟩ := firstOf_pass first (by simp)
    obtain ⟨conflict, -⟩ := firstOf_pass first (by simp)
    refine .inr ⟨i, o, hn, fun bit => Nat.le_of_not_lt fun high => value ⟨bit, high⟩, fun c => closed ⟨i, o, hn, c⟩,
      fun l f => locked ⟨i, o, hn, l, f⟩, fun bit st => by_contra fun ne => started ⟨i, o, hn, bit, ne, st⟩, fun bit => ⟨?_, ?_⟩⟩
    · have inTime : ¬(departure.toNat < s.clock + 60 ∨ s.clock + 604800 < departure.toNat) := fun late => time ⟨bit, late⟩
      omega
    · exact fun clash => conflict ⟨bit, i, o, hn, clash⟩
  · exact .inl ⟨_, run.trans (congrArg _ (refused ok))⟩

theorem orderSound_amendRecord (i : Fin 48) {o : Order} (sound : OrderSound o) (force changes : Byte) (departure : Word)
    (target : Half) (band priority : Byte) (tag : Word) :
    OrderSound (amendRecord s i o (amendedOrder o (changesOf force changes departure target band priority tag))) := by
  have record := amendRecord_eq s i o force changes departure target band priority tag
  dsimp only at record
  obtain ⟨target', band', departure', rest⟩ := sound
  rw [record]
  refine ⟨?_, ?_, ?_, rest⟩ <;> dsimp only <;> split
  · exact targetOf_range target
  · exact target'
  · exact bandOf_range band
  · exact band'
  · exact word_le_clockMax departure
  · exact departure'

theorem TableSound.amendOrder (h : TableSound s) (handle : WireHandle) (force changes : Byte) (departure : Word) (target : Half)
    (band priority : Byte) (tag : Word) : TableSound (amendOrder handle force changes departure target band priority tag s) := by
  rcases amend_refused_or_passes h.queues handle force changes departure target band priority tag with ⟨code, run⟩ | ⟨i, o, passes⟩
  · have : Machine.amendOrder handle force changes departure target band priority tag s = Machine.refuse code s := by
      simpa [exec, execAmend] using run
    rw [this]
    exact h.refuse code
  · obtain ⟨t, run, -, amended⟩ := amended_of_passes passes h.queues target band
    have ho : orderAt s i = some o := passes.1.2.2
    have result : Machine.amendOrder handle force changes departure target band priority tag s = Machine.answer .ok [] t := by
      simpa [exec, execAmend] using run
    have hdep := amendedOrder_departure o force changes departure target band priority tag
    have sound := orderSound_amendRecord (s := s) i (h.orders i o ho) force changes departure target band priority tag
    generalize amendedOrder o (changesOf force changes departure target band priority tag) = n at *
    have written : OrderWritten s (Machine.putOrder s i (amendRecord s i o n)) i (amendRecord s i o n) := orderWritten_setSlot s i rfl
    obtain ⟨slots, queues, writes⟩ := amended.writes
    have clock : t.clock = s.clock := by rw [writes]
    have tuning : t.tuning = s.tuning := by rw [writes]
    rw [result]
    refine TableSound.answer (tableSound_of_reheads amended.reheads amended.sound (tuning ▸ h.tuning)
      (written.forall_order h.orders sound) ?_) _ _
    rw [clock]
    refine written.forall_order (P := fun o => o.state ≠ .closed → s.clock < o.departure) h.ahead fun _ => ?_
    have dep : (amendRecord s i o n).departure = if changes.getLsbD 0 then departure.toNat else o.departure := hdep
    rw [dep]
    split
    · next named =>
      have := (passes.2.2.2.2.2 named).1.1
      omega
    · exact h.ahead i o ho passes.2.2.1

end

/-! ### Every command, every event, every step -/

section
variable {s : State}

theorem TableSound.setLocked (h : TableSound s) (locked : Bool) (handle : WireHandle) : TableSound (setLocked locked handle s) := by
  unfold Machine.setLocked
  split
  · exact h.refuse _
  next i o hr =>
  split
  · exact h.refuse _
  · exact (h.putOrder ((resolve_iff s handle i o).1 hr).2.2 (recordKept_of_flags o o.flags locked)).answer _ _

theorem TableSound.closeCommand (h : TableSound s) (handle : WireHandle) (force : Byte) : TableSound (closeCommand handle force s) := by
  unfold Machine.closeCommand
  split
  · exact h.refuse _
  next i o hr =>
  repeat' split
  · exact h.refuse _
  · exact h.refuse _
  · exact ((h.putOrder ((resolve_iff s handle i o).1 hr).2.2 (recordKept_of_flags o o.flags _)).closeOrder i _).answer _ _

/-- Emptying the slot of a CLOSED order leaves the live orders as they are. -/
theorem TableSound.emptySlot (h : TableSound s) {i : Fin 48} {o : Order} {x : Slot} (ho : orderAt s i = some o)
    (closed : o.state = .closed) (hx : x.order = none) : TableSound (Machine.setSlot s i x) := by
  have order (j : Fin 48) {q : Order} (hq : orderAt (Machine.setSlot s i x) j = some q) : orderAt s j = some q := by
    rw [orderAt_setSlot, hx] at hq
    split at hq
    · cases hq
    · exact hq
  refine ⟨(queuesSound_iff _).2 fun b => ?_, h.tuning, fun j q hq => h.orders j q (order j hq),
    fun j q hq => h.ahead j q (order j hq)⟩
  refine ((queuesSound_iff s).1 h.queues b).congr rfl fun j q _ live => ⟨order j, fun hq => ?_⟩
  rw [orderAt_setSlot, if_neg]
  · exact hq
  · rintro rfl
    rw [ho, Option.some.injEq] at hq
    exact live (hq ▸ closed)

theorem TableSound.retireOrder (h : TableSound s) (handle : WireHandle) : TableSound (retireOrder handle s) := by
  unfold Machine.retireOrder
  split
  · exact h.refuse _
  next i o hr =>
  split
  · exact h.refuse _
  · next notLive =>
    exact (h.emptySlot ((resolve_iff s handle i o).1 hr).2.2 (live_eq_false.1 (by simpa using notLive)) rfl).answer _ _

theorem TableSound.rearmOrder (h : TableSound s) (handle : WireHandle) : TableSound (rearmOrder handle s) := by
  unfold Machine.rearmOrder
  split
  · exact h.refuse _
  next i o hr =>
  split
  · exact h.refuse _
  next tripped =>
  split
  · exact h.refuse _
  · refine TableSound.answer (TableSound.requestPass (h.putOrder ((resolve_iff s handle i o).1 hr).2.2 ?_)) _ _
    have before : o.state ≠ .queued ∧ o.state ≠ .closed := by simp [not_not.1 tripped]
    exact recordKept_of_state .planned o.flags o.trip before (by simp) fun _ n => by cases n

theorem TableSound.profilePreset (h : TableSound s) (tag : Word) (kc u pin : Byte) : TableSound (profilePreset tag kc u pin s) := by
  unfold Machine.profilePreset
  split
  · exact h.refuse _
  split
  · exact (h.placeFirst _).answer _ _
  split
  · exact h.refuse _
  · next t evicted room =>
    obtain ⟨profiles, rfl⟩ := makeRoom_writes room
    have roomy : TableSound { s with profiles := profiles } := h.frame rfl rfl rfl rfl
    exact (roomy.placeFirst _).answer _ _

theorem TableSound.beginHold (h : TableSound s) : TableSound (beginHold s) := by
  have idle : TableSound { s with exchange := none, cycle := none, allstop := none, sending := none, hold := some holdTime } :=
    h.frame rfl rfl rfl rfl
  exact idle.mapBays _

/-- Each command of the port keeps the table sound. -/
theorem TableSound.runCommand (h : TableSound s) {i : Instr} {t : State} (run : runCommand i s = .next t) : TableSound t := by
  cases i with
  | setClock c => cases run; exact (h.setClock _).answer _ _
  | setTuning p d l st sel band => cases run; exact h.setTuning (tuningSound_tuningOf p d l st sel band)
  | softReset => cases run; exact h.softReset
  | openOrder => cases run; exact h.openOrder ..
  | amend => cases run; exact h.amendOrder ..
  | lock => cases run; exact h.setLocked ..
  | unlock => cases run; exact h.setLocked ..
  | close => cases run; exact h.closeCommand ..
  | retire => cases run; exact h.retireOrder ..
  | profilePreset => cases run; exact h.profilePreset ..
  | rearm => cases run; exact h.rearmOrder ..
  | linkReset => cases run; exact h.beginHold.answer _ _
  | enableBays => cases run; exact (h.mapBays _).answer _ _
  | allocateNow => cases run; exact h.requestPass.answer _ _
  | curtail v =>
    cases run
    have written : TableSound { s with softCurtail := flagByte v } := h.frame rfl rfl rfl rfl
    exact (written.judgeCurtailment _).answer _ _
  | lookup | findByBay | findByTag | findByState | profileRead | profileDrop | setCeiling | setFeeder | reportLoad | readBay =>
    cases run
    simp only [lookupOrder, findByBay, findByTag, findByState, profileRead, profileDrop, setCeiling, setFeeder, reportLoad, readBay]
    repeat' split
    all_goals exact h.frame rfl rfl rfl rfl
  | nop | status | clearStatus | setAttnMask | readClock | setWorkingCap | setCurtailCap | setFallbackCap | readBudget =>
    cases run
    exact h.frame rfl rfl rfl rfl
  | frameError | shortTransfer | powerOnReset | pinReset | curtLineChange | allstop | clockAdvance | periodTimerExpiry | publish
  | cycleTimerExpiry | replyWindowClose | linkResetHoldEnd | lapse | reversalTimerExpiry | loadStaleTransition =>
    cases run
    exact h

theorem TableSound.cycleExpiry (h : TableSound s) : TableSound (cycleExpiry s) := by
  unfold Machine.cycleExpiry
  dsimp only
  have restarted : TableSound { s with cycleTimer := Config.second } := h.frame rfl rfl rfl rfl
  split
  · exact h.frame rfl rfl rfl rfl
  · exact TableSound.frame (restarted.goOn 0) rfl rfl rfl rfl

theorem TableSound.sendAllstop (h : TableSound s) : TableSound (sendAllstop s) := by
  unfold Machine.sendAllstop
  have sent : TableSound { s with sending := none } := h.frame rfl rfl rfl rfl
  split
  · dsimp only
    split
    · exact sent.beginAllstop
    · exact sent.goOn _
  · exact h.beginAllstop

theorem TableSound.holdEnd (h : TableSound s) : TableSound (holdEnd s) := by
  unfold Machine.holdEnd
  split
  · exact h
  · have ended : TableSound (Machine.raise .linkResetDone { s with hold := none }) := h.frame rfl rfl rfl rfl
    dsimp only
    split
    · have begun : TableSound { Machine.raise .linkResetDone { s with hold := none } with deferred := false } :=
        ended.frame rfl rfl rfl rfl
      exact begun.goOn 0
    · exact ended

theorem TableSound.periodExpiry (h : TableSound s) : TableSound (periodExpiry s) :=
  TableSound.requestPass (h.frame rfl rfl rfl rfl)

theorem TableSound.lapseBay (h : TableSound s) (b : Fin 32) : TableSound (lapseBay b s) := by
  unfold Machine.lapseBay
  split
  · exact h.setBay b _
  · exact h

/-- A transfer that failed a check runs nothing; its bytes, were they a command, run as that command (R176, log 5). -/
theorem TableSound.execFrameError (h : TableSound s) {bytes : List Byte} {t : State} (run : execFrameError bytes s = .next t) :
    TableSound t := by
  unfold Machine.execFrameError at run
  split at run
  · cases run; exact h
  · cases run; exact h.refuse _
  · exact h.runCommand run

/-- Each command and each event keeps the table sound. -/
theorem TableSound.exec (h : TableSound s) {i : Instr} {t : State} (run : exec i s = .next t) : TableSound t := by
  have command (same : Machine.exec i s = Machine.runCommand i s) : TableSound t := h.runCommand (same.symm.trans run)
  cases i with
  | frameError bytes => exact h.execFrameError run
  | shortTransfer => cases run; exact h
  | powerOnReset curt => cases run; exact tableSound_powerOnReset curt s
  | pinReset curt => cases run; exact tableSound_pinReset curt s
  | curtLineChange level => cases run; exact h.curtLineChange level
  | allstop => cases run; exact h.sendAllstop
  | clockAdvance => cases run; exact h.clockAdvance
  | periodTimerExpiry => cases run; exact h.periodExpiry
  | publish => cases run; exact h.publishPass
  | cycleTimerExpiry => cases run; exact h.cycleExpiry
  | replyWindowClose chars => cases run; exact h.windowClose chars
  | linkResetHoldEnd => cases run; exact h.holdEnd
  | lapse b => cases run; exact h.lapseBay b
  | reversalTimerExpiry b => cases run; exact h.setBay b _
  | loadStaleTransition => cases run; exact h.loadStaleTransition
  | nop | status | clearStatus | setAttnMask | readClock | setClock | setTuning | softReset | openOrder | amend | lock | unlock
  | close | retire | lookup | findByBay | findByTag | findByState | profileRead | profilePreset | profileDrop | setCeiling
  | setWorkingCap | setCurtailCap | setFallbackCap | setFeeder | reportLoad | readBudget | enableBays | linkReset | readBay
  | rearm | curtail | allocateNow => exact command rfl

/-! ### The passing of time -/

theorem TableSound.elapse (h : TableSound s) : TableSound (elapse s) :=
  h.frame (mapBays_slots ..) (mapBays_queues ..) (mapBays_clock ..) (mapBays_tuning ..)

theorem TableSound.takeEvent (h : TableSound s) (e : TimedEvent) : TableSound (takeEvent s e) := by
  cases e with
  | clock => exact h.clockAdvance
  | period => exact h.periodExpiry
  | cycle => exact h.cycleExpiry
  | hold => exact h.holdEnd
  | window => exact h.windowClose []
  | publish => exact h.publishPass
  | loadStale => exact h.loadStaleTransition
  | allstop => exact h.sendAllstop
  | curt => exact h.curtLineChange _
  | lapse b => exact h.lapseBay b
  | reversal b => exact h.setBay b _

theorem TableSound.passTime (h : TableSound s) : TableSound (passTime s) := by
  unfold Machine.passTime
  refine foldl_keeps TableSound _ (fun u e hu => ?_) _ _ (h.elapse.frame rfl rfl rfl rfl)
  split
  · exact hu.takeEvent e
  · exact hu

theorem TableSound.tick (h : TableSound s) : TableSound (tick s) := by
  unfold Machine.tick
  split
  · exact h.frame rfl rfl rfl rfl
  · exact h.passTime

/-- One step: a command on the state with the queue's rest, or the passing of time. -/
theorem TableSound.step (h : TableSound s) {t : State} (run : step s = .next t) : TableSound t := by
  unfold Machine.step at run
  split at run
  · cases run; exact h.tick
  · next c rest _ =>
    have taken : TableSound { s with pending := rest } := h.frame rfl rfl rfl rfl
    exact taken.exec run

end

/-- Settles O57: `TableSound` is kept by every step. -/
theorem orderTableStaysSound : Obligations.OrderTableStaysSound := by
  intro s t queues orders ahead run
  exact (tableSound_iff t).1 (((tableSound_iff s).2 ⟨queues, orders, ahead⟩).step run)

end Sys2Proof.OrderTable
end

section
/-! The figures of an evaluation (R36 to R50): one lemma per rule on `evaluate`, each by the form of the evaluation. -/

namespace Sys2Proof.Demand

open Sys2Proof.Machine Sys2Proof.Safety

/-! ### The integer arithmetic (R33, R36, R42, R44) -/

theorem le_ceilDiv_mul (a : Nat) {b : Nat} (pos : 0 < b) : a ≤ ceilDiv a b * b := by
  have whole := Nat.div_add_mod' (a + b - 1) b
  have rest := Nat.mod_lt (a + b - 1) pos
  unfold ceilDiv
  omega

theorem ceilDiv_mul_lt (a : Nat) {b : Nat} (pos : 0 < b) : ceilDiv a b * b < a + b := by
  have whole := Nat.div_mul_le_self (a + b - 1) b
  unfold ceilDiv
  omega

theorem counted_range (cap : Nat) : counted cap = 0 ∨ 5 ≤ counted cap ∧ counted cap ≤ 120 := by
  unfold counted
  split <;> omega

theorem fullPower_range (t : Telemetry) (wanted : Wanted) :
    fullPower t wanted = 0 ∨ 5 ≤ fullPower t wanted ∧ fullPower t wanted ≤ 120 := by
  cases wanted with
  | heat => exact counted_range t.heatCap
  | cool => exact counted_range t.coolCap
  | off | inBand => exact .inl rfl

theorem demandSteps_zero (watts : Nat) : demandSteps watts 0 = 0 := rfl

/-- The demand in steps: the watts rounded up, held in 5..Mmax (R44, R45). -/
theorem demandSteps_rounded (watts : Nat) {mmax : Nat} (capable : mmax ≠ 0) :
    ∃ n, watts ≤ 100 * n ∧ 100 * n < watts + 100 ∧ demandSteps watts mmax = max 5 (min mmax n) := by
  have above := le_ceilDiv_mul watts (b := 100) (by omega)
  have below := ceilDiv_mul_lt watts (b := 100) (by omega)
  exact ⟨ceilDiv watts 100, by omega, by omega, by simp [demandSteps, capable, clamp]⟩

theorem demandSteps_range (watts : Nat) (t : Telemetry) (mode : Wanted) :
    demandSteps watts (fullPower t mode) = 0
      ∨ 5 ≤ demandSteps watts (fullPower t mode) ∧ demandSteps watts (fullPower t mode) ≤ 120
        ∧ demandSteps watts (fullPower t mode) ≤ fullPower t mode := by
  rcases fullPower_range t mode with zero | range
  · rw [zero]
    exact .inl rfl
  · obtain ⟨n, -, -, rounded⟩ := demandSteps_rounded watts (mmax := fullPower t mode) (by omega)
    rw [rounded]
    omega

/-- The product of R42, of U and the temperature difference that a mode works against. -/
def lossProduct (u : Nat) (target outdoor : Int) : Wanted → Int
  | .heat => u * max 0 (target - outdoor)
  | .cool => u * max 0 (outdoor - target)
  | .off | .inBand => 0

theorem lossPower_rounded (u : Nat) (target outdoor : Int) (mode : Wanted) :
    10 * (lossPower u target outdoor mode : Int) ≤ lossProduct u target outdoor mode
      ∧ lossProduct u target outdoor mode < 10 * (lossPower u target outdoor mode : Int) + 10 := by
  have rounded (d : Int) : 10 * ((u * d.toNat / 10 : Nat) : Int) ≤ u * max 0 d
      ∧ (u : Int) * max 0 d < 10 * ((u * d.toNat / 10 : Nat) : Int) + 10 := by
    rw [max_comm, ← Int.toNat_eq_max, ← Nat.cast_mul]
    omega
  cases mode with
  | heat => exact rounded (target - outdoor)
  | cool => exact rounded (outdoor - target)
  | off | inBand => exact ⟨le_refl 0, show (0 : Int) < 10 * 0 + 10 by decide⟩

/-! ### The inputs of R1, R37 and R134 -/

/-- What an evaluation with telemetry reads: the figures of a sound order, of R37 and of R134, before the departure. -/
structure InputSound (x : EvalInput) (t : Telemetry) : Prop where
  tele : x.tele = some t
  telemetry : TelemetrySound t
  target : 160 ≤ x.target ∧ x.target ≤ 280
  band : 3 ≤ x.band
  kc : 10 ≤ x.kc ∧ x.kc ≤ 250
  u : x.u ≤ 100
  ahead : x.now < x.departure

section
variable {x : EvalInput} {t : Telemetry}

theorem InputSound.deltaT_le (h : InputSound x t) : deltaT x.target t.cabin ≤ 680 := by
  obtain ⟨cabin, -⟩ := h.telemetry
  have target := h.target
  unfold deltaT
  omega

theorem InputSound.energyNeed_le (h : InputSound x t) : energyNeed (deltaT x.target t.cabin) x.kc ≤ 17000 := by
  have product : deltaT x.target t.cabin * x.kc ≤ 680 * 250 := Nat.mul_le_mul h.deltaT_le h.kc.2
  unfold energyNeed ceilDiv
  omega

theorem InputSound.lossPower_le (h : InputSound x t) (mode : Wanted) : lossPower x.u x.target t.outdoor mode ≤ 6800 := by
  obtain ⟨-, outdoor, -⟩ := h.telemetry
  have target := h.target
  have bound (d : Int) (small : d ≤ 680) : x.u * d.toNat / 10 ≤ 6800 := by
    have product : x.u * d.toNat ≤ 100 * 680 := Nat.mul_le_mul h.u (by omega)
    omega
  cases mode with
  | heat => exact bound _ (by omega)
  | cool => exact bound _ (by omega)
  | off | inBand => exact Nat.zero_le _

/-! ### Form and mode (R38 to R40) -/

theorem maintenanceForm_iff (state : OrderState) (target cabin : Int) (band : Nat) :
    maintenanceForm state target cabin band = true ↔ state = .holding ∧ deltaT target cabin ≤ band + 5 := by
  simp [maintenanceForm]

/-- The forms of an evaluation with telemetry: maintenance (R38), in band (R39), or conditioning toward HEAT or COOL (R39). -/
inductive Form (x : EvalInput) (t : Telemetry) : Eval → Prop where
  | maintenance (holding : x.state = .holding) (near : deltaT x.target t.cabin ≤ x.band + 5) :
      Form x t (evalMaintenance x t)
  | inBand (drifted : ¬(x.state = .holding ∧ deltaT x.target t.cabin ≤ x.band + 5))
      (above : x.target - x.band ≤ t.cabin) (below : t.cabin ≤ x.target + x.band) : Form x t (evalInBand x t)
  | conditioning (mode : Wanted) (drifted : ¬(x.state = .holding ∧ deltaT x.target t.cabin ≤ x.band + 5))
      (outside : mode = .heat ∧ t.cabin < x.target - x.band ∨ mode = .cool ∧ x.target + x.band < t.cabin) :
      Form x t (evalConditioning x t mode)

theorem form_evaluate (tele : x.tele = some t) : Form x t (evaluate x) := by
  unfold evaluate
  rw [tele]
  dsimp only
  split
  · next form =>
    obtain ⟨holding, near⟩ := (maintenanceForm_iff ..).1 form
    exact .maintenance holding near
  next form =>
  rw [maintenanceForm_iff] at form
  unfold conditioningMode
  by_cases cold : t.cabin < x.target - x.band
  · rw [if_pos cold]
    exact .conditioning .heat form (.inl ⟨rfl, cold⟩)
  by_cases warm : t.cabin > x.target + x.band
  · rw [if_neg cold, if_pos warm]
    exact .conditioning .cool form (.inr ⟨rfl, warm⟩)
  · rw [if_neg cold, if_neg warm]
    exact .inBand form (by omega) (by omega)

variable {e : Eval}

theorem Form.maintenance_iff (f : Form x t e) :
    e.maintenance = true ↔ x.state = .holding ∧ deltaT x.target t.cabin ≤ x.band + 5 := by
  cases f with
  | maintenance holding near => exact iff_of_true rfl ⟨holding, near⟩
  | inBand drifted | conditioning _ drifted => exact iff_of_false nofun drifted

theorem Form.wanted_conditioning (f : Form x t e) (conditions : e.maintenance = false) :
    (e.wanted = .heat ↔ t.cabin < x.target - x.band) ∧ (e.wanted = .cool ↔ x.target + x.band < t.cabin)
      ∧ (e.wanted ≠ .heat → e.wanted ≠ .cool → e.wanted = .inBand) := by
  cases f with
  | maintenance => cases conditions
  | inBand _ above below =>
    exact ⟨iff_of_false nofun (by omega), iff_of_false nofun (by omega), fun _ _ => rfl⟩
  | conditioning mode _ outside =>
    rcases outside with ⟨rfl, cold⟩ | ⟨rfl, warm⟩
    · exact ⟨iff_of_true rfl cold, iff_of_false nofun (by omega), fun heats => absurd rfl heats⟩
    · exact ⟨iff_of_false nofun (by omega), iff_of_true rfl warm, fun _ cools => absurd rfl cools⟩

/-! ### Capability and loss (R36, R42) -/

theorem evalMaintenance_of_idle (idle : lossPower x.u x.target t.outdoor (maintenanceMode x.target t.outdoor) = 0) :
    (evalMaintenance x t).wanted = .off ∧ (evalMaintenance x t).demand = 0 ∧ (evalMaintenance x t).shortfall = false := by
  simp [evalMaintenance, idle]

/-- The figures of a maintenance evaluation against a loss (R40, R45, R47). -/
theorem evalMaintenance_of_loss {mode : Wanted} (keeps : maintenanceMode x.target t.outdoor = mode)
    (losing : lossPower x.u x.target t.outdoor mode ≠ 0) :
    (evalMaintenance x t).wanted = mode ∧ (evalMaintenance x t).mmax = fullPower t mode
      ∧ (evalMaintenance x t).demand = demandSteps (evalMaintenance x t).loss (evalMaintenance x t).mmax
      ∧ ((evalMaintenance x t).shortfall = true ↔ (evalMaintenance x t).mmax * 100 < (evalMaintenance x t).loss) := by
  subst keeps
  simp [evalMaintenance, losing]

theorem Form.mmax_counted (f : Form x t e) :
    (e.wanted = .heat → e.mmax = counted t.heatCap) ∧ (e.wanted = .cool → e.mmax = counted t.coolCap) := by
  have conditioned : e.wanted = .heat ∨ e.wanted = .cool → e.mmax = fullPower t e.wanted := by
    cases f with
    | maintenance =>
      by_cases idle : lossPower x.u x.target t.outdoor (maintenanceMode x.target t.outdoor) = 0
      · rw [(evalMaintenance_of_idle idle).1]
        exact nofun
      · obtain ⟨wanted, mmax, -⟩ := evalMaintenance_of_loss rfl idle
        rw [wanted, mmax]
        exact fun _ => rfl
    | inBand => exact nofun
    | conditioning => exact fun _ => rfl
  constructor
  · intro heats
    rw [conditioned (.inl heats), heats]
    rfl
  · intro cools
    rw [conditioned (.inr cools), cools]
    rfl

/-- The mode that the loss power is reckoned for: the keeping mode at or in the band, the wanted one outside it (R42). -/
def lossMode (x : EvalInput) (t : Telemetry) (e : Eval) : Wanted :=
  if e.maintenance = true ∨ e.wanted = .inBand then maintenanceMode x.target t.outdoor else e.wanted

theorem Form.loss_eq (f : Form x t e) : e.loss = lossPower x.u x.target t.outdoor (lossMode x t e) := by
  cases f with
  | maintenance => rw [lossMode, if_pos (.inl rfl)]; rfl
  | inBand => rw [lossMode, if_pos (.inr rfl)]; rfl
  | conditioning mode _ outside =>
    have outOfBand : ¬((evalConditioning x t mode).maintenance = true ∨ (evalConditioning x t mode).wanted = .inBand) := by
      rcases outside with ⟨rfl, -⟩ | ⟨rfl, -⟩ <;> exact not_or.2 ⟨nofun, nofun⟩
    rw [lossMode, if_neg outOfBand]
    rfl

/-! ### Demand, energy and time in each form (R41, R44 to R47) -/

theorem Form.maintenance_figures (f : Form x t e) (maintains : e.maintenance = true) :
    (e.loss = 0 → e.wanted = .off ∧ e.demand = 0 ∧ e.shortfall = false)
      ∧ (0 < e.loss → e.wanted = maintenanceMode x.target t.outdoor ∧ (e.shortfall = true ↔ e.mmax * 100 < e.loss)
          ∧ (e.mmax = 0 → e.demand = 0)
          ∧ (e.mmax ≠ 0 → ∃ n, e.loss ≤ 100 * n ∧ 100 * n < e.loss + 100 ∧ e.demand = max 5 (min e.mmax n))) := by
  cases f with
  | inBand | conditioning => cases maintains
  | maintenance =>
    refine ⟨evalMaintenance_of_idle, fun losing => ?_⟩
    obtain ⟨wanted, -, demand, shortfall⟩ := evalMaintenance_of_loss (x := x) (t := t) rfl losing.ne'
    rw [demand]
    exact ⟨wanted, shortfall, fun incapable => by rw [incapable, demandSteps_zero], demandSteps_rounded _⟩

theorem Form.inBand_figures (f : Form x t e) (inBand : e.wanted = .inBand) : e.demand = 0 ∧ e.shortfall = false := by
  cases f with
  | maintenance =>
    exfalso
    revert inBand
    simp only [evalMaintenance, maintenanceMode]
    split_ifs <;> nofun
  | inBand => exact ⟨rfl, rfl⟩
  | conditioning mode _ outside => rcases outside with ⟨rfl, -⟩ | ⟨rfl, -⟩ <;> cases inBand

theorem Form.no_need (f : Form x t e) (near : e.maintenance = true ∨ e.wanted = .inBand) : e.eNeed = 0 ∧ e.tNeed = 0 := by
  cases f with
  | maintenance | inBand => exact ⟨rfl, rfl⟩
  | conditioning mode _ outside => rcases outside with ⟨rfl, -⟩ | ⟨rfl, -⟩ <;> exact near.elim nofun nofun

/-- An order outside its band needs energy (R41). -/
theorem InputSound.energyNeed_pos (h : InputSound x t) (outside : x.band < deltaT x.target t.cabin) :
    energyNeed (deltaT x.target t.cabin) x.kc ≠ 0 := by
  have band := h.band
  have product : 1 * 10 ≤ deltaT x.target t.cabin * x.kc := Nat.mul_le_mul (by omega) h.kc.1
  have above := le_ceilDiv_mul (deltaT x.target t.cabin * x.kc) (b := 10) (by omega)
  unfold energyNeed
  omega

theorem timeNeeded_of_overcome {eNeed mmax loss : Nat} (overcome : mmax * 100 ≤ loss) (needs : eNeed ≠ 0) :
    timeNeeded eNeed mmax loss = 604800 := by
  simp [timeNeeded, needs, Nat.not_lt.2 overcome]

/-- The time of R46, the quotient rounded up and held under seven days; no energy needs no time. -/
theorem timeNeeded_rounded (eNeed : Nat) {mmax loss : Nat} (gains : loss < mmax * 100) :
    ∃ n, eNeed * 3600 ≤ n * (mmax * 100 - loss) ∧ n * (mmax * 100 - loss) < eNeed * 3600 + (mmax * 100 - loss)
      ∧ timeNeeded eNeed mmax loss = min n 604800 := by
  have pos : 0 < mmax * 100 - loss := by omega
  refine ⟨ceilDiv (eNeed * 3600) (mmax * 100 - loss), le_ceilDiv_mul _ pos, ceilDiv_mul_lt _ pos, ?_⟩
  by_cases sated : eNeed = 0
  · subst sated
    have quotient : ceilDiv (0 * 3600) (mmax * 100 - loss) = 0 := Nat.div_eq_of_lt (by omega)
    rw [quotient]
    rfl
  · simp [timeNeeded, sated, gains]

theorem timeNeeded_le (eNeed mmax loss : Nat) : timeNeeded eNeed mmax loss ≤ 604800 := by
  unfold timeNeeded
  split_ifs
  · exact Nat.zero_le _
  · exact Nat.min_le_right ..
  · exact le_rfl

theorem Form.conditioning_figures (f : Form x t e) (h : InputSound x t) (conditions : e.maintenance = false)
    (wants : e.wanted = .heat ∨ e.wanted = .cool) :
    deltaT x.target t.cabin * x.kc ≤ 10 * e.eNeed ∧ 10 * e.eNeed < deltaT x.target t.cabin * x.kc + 10
      ∧ (e.mmax = 0 → e.demand = 0)
      ∧ (e.mmax ≠ 0 → ∃ watts n, e.eNeed * 3600 ≤ watts * (x.departure - x.now)
          ∧ watts * (x.departure - x.now) < e.eNeed * 3600 + (x.departure - x.now)
          ∧ watts + e.loss ≤ 100 * n ∧ 100 * n < watts + e.loss + 100 ∧ e.demand = max 5 (min e.mmax n))
      ∧ (e.mmax * 100 ≤ e.loss → e.tNeed = 604800)
      ∧ (e.loss < e.mmax * 100 → ∃ n, e.eNeed * 3600 ≤ n * (e.mmax * 100 - e.loss)
          ∧ n * (e.mmax * 100 - e.loss) < e.eNeed * 3600 + (e.mmax * 100 - e.loss) ∧ e.tNeed = min n 604800)
      ∧ (e.shortfall = true ↔ e.mmax * 100 ≤ e.loss ∨ x.departure - x.now < e.tNeed) := by
  cases f with
  | maintenance => cases conditions
  | inBand => exact wants.elim nofun nofun
  | conditioning mode _ outside =>
    have ahead : 0 < x.departure - x.now := Nat.sub_pos_of_lt h.ahead
    have drifted : x.band < deltaT x.target t.cabin := by
      unfold deltaT
      omega
    have above := le_ceilDiv_mul (deltaT x.target t.cabin * x.kc) (b := 10) (by omega)
    have below := ceilDiv_mul_lt (deltaT x.target t.cabin * x.kc) (b := 10) (by omega)
    rw [Nat.mul_comm _ 10] at above below
    refine ⟨above, below, fun incapable => ?_, fun capable => ?_,
      fun overcome => timeNeeded_of_overcome overcome (h.energyNeed_pos drifted), timeNeeded_rounded _, ?_⟩
    · exact (congrArg (demandSteps _) incapable).trans (demandSteps_zero _)
    · obtain ⟨n, rounded⟩ := demandSteps_rounded _ capable
      exact ⟨_, n, le_ceilDiv_mul _ ahead, ceilDiv_mul_lt _ ahead, rounded⟩
    · exact (Bool.or_eq_true ..).to_iff.trans (or_congr decide_eq_true_iff decide_eq_true_iff)

/-! ### What every evaluation carries, and the ranges (R48, R49, R51) -/

theorem Form.carried (f : Form x t e) :
    e.kc = x.kc ∧ e.u = x.u ∧ e.cabin = some t.cabin ∧ e.startAt = x.departure - e.tNeed - 300
      ∧ e.slack = min (((x.departure - x.now : Nat) : Int) - e.tNeed) 2147483647 := by
  cases f with
  | conditioning => exact ⟨rfl, rfl, rfl, rfl, rfl⟩
  | maintenance | inBand =>
    refine ⟨rfl, rfl, rfl, rfl, ?_⟩
    exact congrArg (min · 2147483647) (sub_zero _).symm

theorem Form.demand_range (f : Form x t e) : e.demand = 0 ∨ 5 ≤ e.demand ∧ e.demand ≤ 120 ∧ e.demand ≤ e.mmax := by
  cases f with
  | maintenance =>
    by_cases idle : lossPower x.u x.target t.outdoor (maintenanceMode x.target t.outdoor) = 0
    · exact .inl (evalMaintenance_of_idle idle).2.1
    · obtain ⟨-, mmax, demand, -⟩ := evalMaintenance_of_loss rfl idle
      rw [demand, mmax]
      exact demandSteps_range ..
  | inBand => exact .inl rfl
  | conditioning => exact demandSteps_range ..

theorem Form.eNeed_le (f : Form x t e) (h : InputSound x t) : e.eNeed ≤ 17000 := by
  cases f with
  | maintenance | inBand => exact Nat.zero_le _
  | conditioning => exact h.energyNeed_le

theorem Form.tNeed_le (f : Form x t e) : e.tNeed ≤ 604800 := by
  cases f with
  | maintenance | inBand => exact Nat.zero_le _
  | conditioning => exact timeNeeded_le ..

end

/-- Settles O29: without telemetry the figures are those of `evalBlind`; with it each rule is read off the form. -/
theorem figuresAreExactAndInRange : Obligations.FiguresAreExactAndInRange := by
  intro x sound target₁ target₂ band _ kc₁ kc₂ _ u ahead _
  dsimp only
  cases tele : x.tele with
  | none =>
    have blind : evaluate x = evalBlind x := by simp [evaluate, tele]
    rw [blind]
    exact ⟨rfl, rfl, fun _ => ⟨rfl, rfl, rfl, rfl, rfl, rfl, rfl, rfl, rfl⟩, nofun⟩
  | some t =>
    have input : InputSound x t :=
      { tele := tele, telemetry := sound t tele, target := ⟨target₁, target₂⟩, band := band, kc := ⟨kc₁, kc₂⟩
        u := u, ahead := ahead }
    have f : Form x t (evaluate x) := form_evaluate tele
    obtain ⟨kc, figureU, cabin, startAt, slack⟩ := f.carried
    have time := f.tNeed_le
    have loss : (evaluate x).loss ≤ 6800 := f.loss_eq ▸ input.lossPower_le _
    have rounded := lossPower_rounded x.u x.target t.outdoor (lossMode x t (evaluate x))
    rw [← f.loss_eq] at rounded
    refine ⟨kc, figureU, nofun, ?_⟩
    rintro _ ⟨⟩
    exact ⟨cabin, f.demand_range, f.eNeed_le input, loss, time, by omega, by omega, f.maintenance_iff, f.wanted_conditioning,
      f.mmax_counted.1, f.mmax_counted.2, rounded, f.maintenance_figures, f.inBand_figures, f.no_need,
      f.conditioning_figures input, startAt, slack⟩

end Sys2Proof.Demand
end

section
/-! The snapshot of a pass (R77, R78) with the figures chosen for its heads (R37). -/

namespace Sys2Proof.Allocation

open Sys2Proof.Machine Sys2Proof.Safety

/-! ### The figures of a head (R37) -/

section
variable {s : State} {o : Order}

theorem chosenFigures_of_activation {a : Activation} (started : o.started = true) (filled : o.activation = some a) :
    chosenFigures s o = (a.kc, a.u) := by simp [chosenFigures, started, filled]

theorem chosenFigures_of_profile {p : Profile} (waiting : o.started = false) (found : findProfile s o.tag = some p) :
    chosenFigures s o = (p.kc, p.u) := by simp [chosenFigures, waiting, found]

theorem chosenFigures_of_absent (waiting : o.started = false) (absent : findProfile s o.tag = none) :
    chosenFigures s o = (45, 20) := by simp [chosenFigures, waiting, absent]

/-- In a sound table a profile is found by its own tag (R56). -/
theorem findProfile_of_mem (sound : ProfilesSound s) {q : Profile} (mem : q ∈ s.profiles) : findProfile s q.tag = some q := by
  obtain ⟨-, distinct, ranges⟩ := sound
  obtain ⟨notZero, -⟩ := ranges q mem
  cases found : findProfile s q.tag with
  | none => exact absurd rfl ((findProfile_none.1 found).resolve_left notZero q mem)
  | some p =>
    obtain ⟨-, other, same⟩ := findProfile_some found
    rw [List.inj_on_of_nodup_map distinct other mem same]

/-- Kc and U are the chosen ones exactly when they meet the cases of R37. -/
theorem chosenFigures_iff (sound : ProfilesSound s) (kc u : Nat) :
    (kc, u) = chosenFigures s o ↔
      (∀ a, o.started = true → o.activation = some a → kc = a.kc ∧ u = a.u)
      ∧ (∀ q ∈ s.profiles, o.started = false → q.tag = o.tag → kc = q.kc ∧ u = q.u)
      ∧ (o.started = false → (∀ q ∈ s.profiles, q.tag ≠ o.tag) → kc = 45 ∧ u = 20)
      ∧ (o.started = true → o.activation = none → (kc, u) = chosenFigures s o) := by
  cases started : o.started with
  | true =>
    cases filled : o.activation with
    | none => simp
    | some a => simp [chosenFigures_of_activation started filled]
  | false =>
    cases found : findProfile s o.tag with
    | none =>
      have absent : ∀ q ∈ s.profiles, q.tag ≠ o.tag := fun q mem same => by
        rw [← same, findProfile_of_mem sound mem] at found
        cases found
      rw [chosenFigures_of_absent started found, Prod.mk.injEq]
      exact ⟨fun same => ⟨nofun, fun q mem _ tag => absurd tag (absent q mem), fun _ _ => same, nofun⟩,
        fun ⟨_, _, fresh, _⟩ => fresh rfl absent⟩
    | some p =>
      obtain ⟨-, mem, tag⟩ := findProfile_some found
      rw [chosenFigures_of_profile started found]
      have only : ∀ q ∈ s.profiles, q.tag = o.tag → q = p := fun q hq same =>
        List.inj_on_of_nodup_map sound.2.1 hq mem (same.trans tag.symm)
      constructor
      · intro same
        obtain ⟨rfl, rfl⟩ := Prod.mk.inj same
        refine ⟨nofun, fun q hq _ same => ?_, fun _ absent => absurd tag (absent p mem), nofun⟩
        rw [only q hq same]
        exact ⟨rfl, rfl⟩
      · rintro ⟨-, ofProfile, -, -⟩
        obtain ⟨rfl, rfl⟩ := ofProfile p mem rfl tag
        rfl

end

/-! ### The bays, feeders and heads of a snapshot (R77, R78) -/

theorem takeSnapshot_bays (s : State) (b : Fin 32) : (takeSnapshot s).bays[b] = snapBay s b := by simp [takeSnapshot]

theorem takeSnapshot_feeders (s : State) (k : Fin 4) : (takeSnapshot s).feeders[k] = feederHeadroom s k := by
  simp [takeSnapshot]

theorem evaluated_iff (state : OrderState) :
    state.evaluated = true ↔ state = .planned ∨ state = .active ∨ state = .holding ∨ ∃ reason, state = .paused reason := by
  cases state <;> simp [OrderState.evaluated]

section
variable (s : State)

/-- The head that the snapshot lists for an order in first place. -/
def listedHead (b : Fin 32) (i : Fin 48) (o : Order) : SnapHead :=
  { slot := i, gen := (slotAt s i).gen, state := o.state, bay := b, tag := o.tag, departure := o.departure
    target := o.target, band := o.band, priority := o.priority, started := o.started, activation := o.activation
    kc := (chosenFigures s o).1, u := (chosenFigures s o).2 }

theorem snapHead_iff (b : Fin 32) (h : SnapHead) :
    snapHead s b = some h ↔
      ∃ i o, HeadOf s b i ∧ orderAt s i = some o ∧ o.state.evaluated = true ∧ h = listedHead s b i o := by
  have heads := headOrder_iff s b
  unfold snapHead
  cases first : headOrder s b with
  | none =>
    have noHead : ∀ i o, HeadOf s b i → orderAt s i ≠ some o := fun i o hi ho => by
      rw [(heads i o).2 ⟨hi, ho⟩] at first
      cases first
    exact iff_of_false nofun fun ⟨i, o, hi, ho, _⟩ => noHead i o hi ho
  | some x =>
    obtain ⟨i, o⟩ := x
    have only : ∀ j q, HeadOf s b j → orderAt s j = some q → j = i ∧ q = o := fun j q hj hq => by
      have same := (heads j q).2 ⟨hj, hq⟩
      rw [first] at same
      cases same
      exact ⟨rfl, rfl⟩
    obtain ⟨hi, ho⟩ := (heads i o).1 first
    dsimp only
    split
    · next evaluated =>
      constructor
      · rintro ⟨⟩
        exact ⟨i, o, hi, ho, evaluated, rfl⟩
      · rintro ⟨j, q, hj, hq, -, rfl⟩
        obtain ⟨rfl, rfl⟩ := only j q hj hq
        rfl
    · next idle =>
      refine iff_of_false nofun fun ⟨j, q, hj, hq, evaluated, _⟩ => idle ?_
      obtain ⟨rfl, rfl⟩ := only j q hj hq
      exact evaluated

theorem snapHead_bay {b : Fin 32} {h : SnapHead} (listed : snapHead s b = some h) : h.bay = b := by
  obtain ⟨i, o, -, -, -, rfl⟩ := (snapHead_iff s b h).1 listed
  rfl

/-- A snapshot lists its heads in ascending bay order, so at most one for a bay. -/
theorem takeSnapshot_heads_ascend : (takeSnapshot s).heads.Pairwise fun x y => x.bay < y.bay := by
  refine List.Pairwise.filterMap (snapHead s) (fun a b before x hx y hy => ?_) (List.pairwise_lt_finRange 32)
  rwa [snapHead_bay s hx, snapHead_bay s hy]

theorem mem_takeSnapshot_heads (h : SnapHead) :
    h ∈ (takeSnapshot s).heads ↔
      ∃ o, HeadOf s h.bay h.slot ∧ orderAt s h.slot = some o ∧ o.state.evaluated = true
        ∧ h = listedHead s h.bay h.slot o := by
  simp only [takeSnapshot, List.mem_filterMap, snapHead_iff]
  constructor
  · rintro ⟨b, -, i, o, head, order, evaluated, rfl⟩
    exact ⟨o, head, order, evaluated, rfl⟩
  · rintro ⟨o, head, order, evaluated, listed⟩
    exact ⟨h.bay, List.mem_finRange _, h.slot, o, head, order, evaluated, listed⟩

/-- A head is the listed one when its fields are the order's and its Kc and U the chosen ones. -/
theorem eq_listedHead_iff (h : SnapHead) (o : Order) :
    h = listedHead s h.bay h.slot o ↔
      h = { listedHead s h.bay h.slot o with kc := h.kc, u := h.u } ∧ (h.kc, h.u) = chosenFigures s o := by
  constructor
  · intro listed
    have kc := congrArg SnapHead.kc listed
    have u := congrArg SnapHead.u listed
    exact ⟨by rw [kc, u]; exact listed, Prod.ext kc u⟩
  · rintro ⟨fields, figures⟩
    obtain ⟨kc, u⟩ := Prod.ext_iff.1 figures
    rw [show h.kc = _ from kc, show h.u = _ from u] at fields
    exact fields

end

/-- Settles O28: with no pass in flight ALLOCATE_NOW starts one on `takeSnapshot`. -/
theorem snapshotHoldsTheMoment : Obligations.SnapshotHoldsTheMoment := by
  intro s idle _ profiles
  have starts : requestPass s = startPass s := by simp [requestPass, idle]
  refine ⟨answer .ok [] (startPass s), { snap := takeSnapshot s, age := 0 }, by rw [← starts]; rfl,
    rfl, rfl, rfl, rfl, rfl, rfl, rfl, rfl, takeSnapshot_feeders s, takeSnapshot_bays s, takeSnapshot_heads_ascend s, fun h => ?_⟩
  rw [mem_takeSnapshot_heads]
  have listed (o : Order) := (eq_listedHead_iff s h o).trans (and_congr_right' (chosenFigures_iff profiles h.kc h.u))
  exact exists_congr fun o => and_congr_right' (and_congr_right' (and_congr (evaluated_iff o.state) (listed o)))

end Sys2Proof.Allocation
end

section
/-! The results of a pass: the evaluation they rest on (R34), and the mode reversal guard (R86, R168). -/

namespace Sys2Proof.Allocation

open Sys2Proof.Machine Sys2Proof.Safety

/-! ### The bays of the distributed shares (R87 to R90) -/

theorem mem_insertByRank {a b : Share} {l : List Share} (mem : b ∈ insertByRank a l) : b = a ∨ b ∈ l := by
  induction l with
  | nil => exact .inl (List.mem_singleton.1 mem)
  | cons c rest ih =>
    unfold insertByRank at mem
    split at mem
    · rcases List.mem_cons.1 mem with rfl | inRest
      · exact .inr List.mem_cons_self
      · exact (ih inRest).imp_right (List.mem_cons_of_mem c)
    · exact List.mem_cons.1 mem

theorem mem_of_mem_rank {b : Share} {l : List Share} (mem : b ∈ rank l) : b ∈ l := by
  induction l with
  | nil => exact mem
  | cons a rest ih =>
    rcases mem_insertByRank mem with rfl | ranked
    · exact List.mem_cons_self
    · exact List.mem_cons_of_mem a (ih ranked)

theorem roundOne_bay (p : Purse) (a : Share) : (roundOne p a).2.bay = a.bay := by
  unfold roundOne
  dsimp only
  split <;> rfl

theorem roundTwo_bay (p : Purse) (a : Share) : (roundTwo p a).2.bay = a.bay := by
  unfold roundTwo
  split <;> rfl

theorem runRound_bays {f : Purse → Share → Purse × Share} (keeps : ∀ p a, (f p a).2.bay = a.bay) (p : Purse) (l : List Share) :
    (runRound f p l).2.map Share.bay = l.map Share.bay := by
  induction l generalizing p with
  | nil => rfl
  | cons a rest ih => simp only [runRound, List.map_cons, keeps, ih]

/-- A distributed share is the share of a bay that takes part. -/
theorem bay_of_mem_distribute {snap : Snapshot} {shares : List Share} {a : Share} (mem : a ∈ distribute snap shares) :
    ∃ b ∈ shares, b.bay = a.bay := by
  have bays : (distribute snap shares).map Share.bay = (rank shares).map Share.bay :=
    (runRound_bays roundTwo_bay _ _).trans (runRound_bays roundOne_bay _ _)
  obtain ⟨b, ranked, same⟩ := List.mem_map.1 (bays ▸ List.mem_map_of_mem mem)
  exact ⟨b, mem_of_mem_rank ranked, same⟩

/-! ### From a judged head to its result (R85, R86, R89, R91) -/

/-- A result carries its judged head; only STARVED and the grant depend on the shares. -/
theorem result_judged (shares : List Share) (j : Judged) :
    (j.result shares).head = j.head ∧ (j.result shares).eval = j.eval ∧ (j.result shares).newState = j.newState
      ∧ (j.result shares).reversing = j.reversing := by
  unfold Judged.result
  repeat' split
  all_goals exact ⟨rfl, rfl, rfl, rfl⟩

/-- A head without a share is not starved and is granted nothing. -/
theorem result_of_no_share {shares : List Share} {j : Judged} (noShare : ∀ a ∈ shares, a.bay ≠ j.head.bay) :
    (j.result shares).starved = false ∧ (j.result shares).mode = .off ∧ (j.result shares).steps = 0 := by
  have notFound : shares.find? (fun a => a.bay == j.head.bay) = none :=
    List.find?_eq_none.2 fun a mem => by simpa using noShare a mem
  simp [Judged.result, notFound]

theorem share_of_reversing {snap : Snapshot} {j : Judged} (reversing : j.reversing = true) : j.share snap = none := by
  simp [Judged.share, reversing]

theorem share_bay {snap : Snapshot} {j : Judged} {a : Share} (share : j.share snap = some a) : a.bay = j.head.bay := by
  unfold Judged.share at share
  split at share
  · obtain ⟨k, -, rfl⟩ := Option.map_eq_some_iff.1 share
    rfl
  · cases share

/-- What the distribution of a snapshot gives the heads that take part. -/
def passShares (snap : Snapshot) : List Share :=
  distribute snap ((snap.heads.map (judgeHead snap)).filterMap (Judged.share snap))

theorem mem_passResults {snap : Snapshot} {r : PassResult} :
    r ∈ passResults snap ↔ ∃ h ∈ snap.heads, (judgeHead snap h).result (passShares snap) = r := by
  simp [passResults, passShares]

/-! ### The guard -/

theorem eligible_iff (state : OrderState) : state.eligible = true ↔ state = .active ∨ state = .holding := by
  cases state <;> simp [OrderState.eligible]

/-- The guard bars a wanted mode exactly where the opposite mode is applied, pending or resting (R168). -/
theorem guardBars_iff (wanted : Wanted) (x : SnapBay) :
    guardBars wanted.toMode x = true ↔
      wanted = .heat ∧ (x.appliedMode = .cool ∨ x.pendingMode = .cool ∨ x.resting = some .cool)
      ∨ wanted = .cool ∧ (x.appliedMode = .heat ∨ x.pendingMode = .heat ∨ x.resting = some .heat) := by
  cases wanted <;> simp [guardBars, Wanted.toMode, Mode.opposite, or_assoc]

theorem judgeHead_reversing_iff (snap : Snapshot) (h : SnapHead) :
    (judgeHead snap h).reversing = true ↔
      (judgeHead snap h).newState.eligible = true ∧ 5 ≤ (judgeHead snap h).eval.demand
        ∧ guardBars (judgeHead snap h).eval.wanted.toMode snap.bays[h.bay] = true := by
  simp [judgeHead, and_assoc]

/-- With one head to a bay, a barred head has no share in the distribution. -/
theorem no_share_of_reversing {snap : Snapshot} (ascend : snap.heads.Pairwise fun x y => x.bay < y.bay) {h : SnapHead}
    (listed : h ∈ snap.heads) (barred : (judgeHead snap h).reversing = true) :
    ∀ a ∈ passShares snap, a.bay ≠ h.bay := by
  intro a mem same
  obtain ⟨b, share, bay⟩ := bay_of_mem_distribute mem
  obtain ⟨j, judged, shared⟩ := List.mem_filterMap.1 share
  obtain ⟨g, other, rfl⟩ := List.mem_map.1 judged
  have sameBay : g.bay = h.bay := ((share_bay shared).symm.trans bay).trans same
  have distinct : (snap.heads.map SnapHead.bay).Nodup :=
    List.pairwise_map.2 (ascend.imp fun before => ne_of_lt before)
  obtain rfl := List.inj_on_of_nodup_map distinct other listed sameBay
  rw [share_of_reversing barred] at shared
  cases shared

/-- Settles O32: a result carries its judged head, and a barred head has no share to be granted from. -/
theorem reversalGuardBars : Obligations.ReversalGuardBars := by
  intro snap r ascend mem
  obtain ⟨h, listed, rfl⟩ := mem_passResults.1 mem
  obtain ⟨head, eval, newState, reversing⟩ := result_judged (passShares snap) (judgeHead snap h)
  simp only [head, eval, newState, reversing]
  refine ⟨rfl, rfl, ?_, fun barred => result_of_no_share (no_share_of_reversing ascend listed barred)⟩
  rw [judgeHead_reversing_iff, eligible_iff, guardBars_iff]
  rfl

end Sys2Proof.Allocation
end

section
/-! The profile commands (R61, R62, R64), and what every operation on the profile table keeps of its form (R55, R56). -/

namespace Sys2Proof.ProfileTable

open Sys2Proof.Machine Sys2Proof.Safety Sys2Proof.OrderTable Sys2Proof.Allocation

section
variable {s : State} {tag : Tag}

/-! ### Finding a profile, and its references (R56, R58) -/

theorem findProfile_absent (absent : ∀ p ∈ s.profiles, p.tag ≠ tag) : findProfile s tag = none := findProfile_none.2 (.inr absent)

/-- In a sound table the profile of a tag is found (R56). -/
theorem findProfile_present (sound : ProfilesSound s) (present : ∃ p ∈ s.profiles, p.tag = tag) :
    ∃ p ∈ s.profiles, p.tag = tag ∧ findProfile s tag = some p := by
  obtain ⟨p, mem, rfl⟩ := present
  exact ⟨p, mem, rfl, findProfile_of_mem sound mem⟩

theorem tag_ne_zero (sound : ProfilesSound s) (present : ∃ p ∈ s.profiles, p.tag = tag) : tag ≠ 0 := by
  obtain ⟨p, mem, rfl⟩ := present
  exact (sound.2.2 p mem).1

theorem carries_eq (s : State) (tag : Tag) (i : Fin 48) :
    carries s tag i = (orderAt s i).any fun o => decide (o.state ≠ .closed) && decide (o.tag = tag) := by
  rw [Bool.eq_iff_iff, carries_iff, Option.any_eq_true_iff_get]
  cases orderAt s i <;> simp

/-- The references that PROFILE_READ counts, in the words of R58. -/
theorem referenceCount_eq (s : State) (tag : Tag) :
    referenceCount s tag = ((List.finRange 48).filter fun i =>
      (orderAt s i).any fun o => decide (o.state ≠ .closed) && decide (o.tag = tag)).length :=
  congrArg List.length (List.filter_congr fun i _ => carries_eq s tag i)

/-- In a sound table the place of a profile is where its tag first stands (R56, R57). -/
theorem findIdx_tag (sound : ProfilesSound s) {before after : List Profile} {p : Profile}
    (list : s.profiles = before ++ p :: after) : (s.profiles.findIdx fun q => q.tag == p.tag) = before.length := by
  have distinct := sound.2.1
  rw [list, List.map_append, List.nodup_append] at distinct
  obtain ⟨-, -, apart⟩ := distinct
  have others : ∀ q ∈ before, (q.tag == p.tag) = false := fun q mem =>
    beq_false_of_ne (apart q.tag (List.mem_map_of_mem mem) p.tag (by simp))
  have miss : (before.findIdx fun q => q.tag == p.tag) = before.length := List.findIdx_eq_length.2 others
  rw [list, List.findIdx_append, miss, if_neg (Nat.lt_irrefl _)]
  simp [List.findIdx_cons]

/-! ### PROFILE_READ (R61) -/

/-- The 11 bytes of PROFILE_READ, read back field by field. -/
theorem read_profile (s : State) (p : Profile) :
    readFields [4, 1, 1, 1, 1, 1, 1, 1] (profileBytes s p)
      = some (atWidths [4, 1, 1, 1, 1, 1, 1, 1]
          [p.tag.toNat, p.kc, p.u, p.samples, p.pinned.toNat, s.profiles.findIdx fun q => q.tag == p.tag,
            referenceCount s p.tag, s.profiles.length]) := by
  simp [profileBytes, readFields_byte, readFields_bytes32, toNat_mod_word, bool_toNat_mod]

theorem exec_profileRead_absent (absent : ∀ p ∈ s.profiles, p.tag ≠ tag) :
    exec (.profileRead tag) s = .next (refuse .noProfile s) := by
  simp [exec, execProfileRead, profileRead, findProfile_absent absent]

theorem exec_profileRead_found {p : Profile} (found : findProfile s tag = some p) :
    exec (.profileRead tag) s = .next (answer .ok (profileBytes s p) s) := by
  simp [exec, execProfileRead, profileRead, found]

end

/-- Settles O23: the profile found is that of the tag, at the place where its tag first stands. -/
theorem profileReadAnswer : Obligations.ProfileReadAnswer := by
  intro tag s sound
  refine ⟨exec_profileRead_absent, ?_⟩
  rintro before after p list rfl
  have found : findProfile s p.tag = some p := findProfile_of_mem sound (by simp [list])
  rw [← referenceCount_eq, ← findIdx_tag sound list]
  exact ⟨rfl, _, read_profile s p, exec_profileRead_found found⟩

/-! ### The victim (R60) -/

section
variable {s : State} {tag : Tag}

/-- What may be evicted is neither pinned nor referenced. -/
theorem evictable_iff (sound : ProfilesSound s) {p : Profile} (mem : p ∈ s.profiles) :
    (!p.pinned && !referenced s p.tag) = true ↔ ¬(p.pinned = true ∨ Referenced s p.tag) := by
  have used : referenced s p.tag = true ↔ Referenced s p.tag :=
    (referenced_iff s p.tag).trans (and_iff_right (sound.2.2 p mem).1)
  simp [← used]

theorem victim_of_isVictim (sound : ProfilesSound s) {v : Profile} (h : IsVictim s v) : victim s = some v := by
  obtain ⟨before, after, list, pinned, free, kept⟩ := h
  rw [victim, List.find?_eq_some_iff_append]
  refine ⟨(evictable_iff sound (by simp [list])).2 (by simp [pinned, free]), after.reverse, before.reverse, by simp [list],
    fun p hp => ?_⟩
  have later : p ∈ after := List.mem_reverse.1 hp
  rw [Bool.not_eq_true', ← Bool.not_eq_true, evictable_iff sound (by simp [list, later]), not_not]
  exact kept p later

theorem victim_none_iff (sound : ProfilesSound s) : victim s = none ↔ NoVictim s := by
  refine ⟨noVictim_of_victim, fun none => List.find?_eq_none.2 fun p hp => ?_⟩
  have mem := List.mem_reverse.1 hp
  rw [evictable_iff sound mem, not_not]
  exact none p mem

/-! ### Room for a creation (R59, R60) -/

theorem makeRoom_of_room (room : s.profiles.length < 64) : makeRoom s = some (s, 0) := if_pos room

theorem makeRoom_of_full (full : 64 ≤ s.profiles.length) :
    makeRoom s = (victim s).map fun v => ({ s with profiles := withoutProfile s v.tag }, v.tag) := if_neg full.not_gt

theorem makeRoom_none_iff (sound : ProfilesSound s) : makeRoom s = none ↔ 64 ≤ s.profiles.length ∧ NoVictim s := by
  rcases Nat.lt_or_ge s.profiles.length 64 with room | full
  · simp [makeRoom_of_room room, room]
  · simp [makeRoom_of_full full, full, victim_none_iff sound]

/-- A creation puts the profile in front of the table that room has been made in. -/
theorem makeRoom_of_creates (sound : ProfilesSound s) {p : Profile} {after : List Profile} {evicted : Tag}
    (absent : ∀ q ∈ s.profiles, q.tag ≠ p.tag) (creates : Creates s p after evicted) :
    ∃ t, makeRoom s = some (t, evicted) ∧ placeFirst t p = { s with profiles := after } := by
  rcases creates with ⟨room, rfl, rfl⟩ | ⟨full, v, isVictim, rfl, rfl⟩
  · exact ⟨s, makeRoom_of_room room, by rw [placeFirst, withoutProfile_of_absent absent]⟩
  · refine ⟨{ s with profiles := withoutProfile s v.tag }, ?_, ?_⟩
    · rw [makeRoom_of_full full, victim_of_isVictim sound isVictim]; rfl
    have absent' : ∀ q ∈ withoutProfile s v.tag, q.tag ≠ p.tag := fun q hq => absent q (List.mem_of_mem_filter hq)
    rw [placeFirst, withoutProfile_of_absent (s := { s with profiles := withoutProfile s v.tag }) absent']
    rfl

/-! ### PROFILE_PRESET (R62) -/

theorem presetProfile_eq (tag : Tag) (kc u pin : Byte) :
    presetProfile tag kc u pin
      = { tag := tag, kc := max 10 (min 250 kc.toNat), u := max 5 (min 100 u.toNat), samples := 0, pinned := decide (pin ≠ 0) } := by
  simp [presetProfile, clamp, flagByte, bne, beq_eq_decide]

/-- The answer of PROFILE_PRESET: the creation flag, and the tag evicted (section 8.7). -/
theorem read_preset (created : Bool) (evicted : Tag) :
    readFields [1, 4] (boolByte created :: bytes32 evicted) = some (atWidths [1, 4] [created.toNat, evicted.toNat]) := by
  have evicted' := readFields_last (w := 4) (p := bytes32 evicted) rfl
  simp [readFields_byte, evicted', beValue_bytes32, toNat_mod_word, bool_toNat_mod]

theorem exec_profilePreset_zero (kc u pin : Byte) (s : State) :
    exec (.profilePreset 0 kc u pin) s = .next (refuse .badValue s) := by
  simp [exec, execProfilePreset, profilePreset]

theorem exec_profilePreset_found (zero : tag ≠ 0) {p : Profile} (found : findProfile s tag = some p) (kc u pin : Byte) :
    exec (.profilePreset tag kc u pin) s
      = .next (answer .ok (0 :: bytes32 0) (placeFirst s (presetProfile tag kc u pin))) := by
  rw [exec, execProfilePreset, profilePreset, if_neg zero, found]

theorem exec_profilePreset_full (zero : tag ≠ 0) (absent : findProfile s tag = none) (full : makeRoom s = none) (kc u pin : Byte) :
    exec (.profilePreset tag kc u pin) s = .next (refuse .tableFull s) := by
  rw [exec, execProfilePreset, profilePreset, if_neg zero, absent, full]

theorem exec_profilePreset_room (zero : tag ≠ 0) (absent : findProfile s tag = none) {t : State} {evicted : Tag}
    (room : makeRoom s = some (t, evicted)) (kc u pin : Byte) :
    exec (.profilePreset tag kc u pin) s
      = .next (answer .ok (1 :: bytes32 evicted) (placeFirst t (presetProfile tag kc u pin))) := by
  rw [exec, execProfilePreset, profilePreset, if_neg zero, absent, room]

/-- PROFILE_PRESET judged by the checks of R62. -/
theorem judgedBy_profilePreset (sound : ProfilesSound s) (tag : Tag) (kc u pin : Byte) :
    JudgedBy (.profilePreset tag kc u pin) s
      [(tag = 0, .badValue), ((∀ p ∈ s.profiles, p.tag ≠ tag) ∧ 64 ≤ s.profiles.length ∧ NoVictim s, .tableFull)] := by
  by_cases zero : tag = 0
  · subst zero
    exact judgedBy_refusal (exec_profilePreset_zero kc u pin s) (firstOf_hit rfl)
  cases found : findProfile s tag with
  | some p =>
    obtain ⟨-, mem, same⟩ := findProfile_some found
    exact judgedBy_ok (exec_profilePreset_found zero found kc u pin)
      (firstOf_miss zero (firstOf_miss (fun full => full.1 p mem same) rfl))
  | none =>
    have absent := (findProfile_none.1 found).resolve_left zero
    cases room : makeRoom s with
    | none =>
      exact judgedBy_refusal (exec_profilePreset_full zero found room kc u pin)
        (firstOf_miss zero (firstOf_hit ⟨absent, (makeRoom_none_iff sound).1 room⟩))
    | some r =>
      refine judgedBy_ok (exec_profilePreset_room zero found room kc u pin) (firstOf_miss zero (firstOf_miss (fun full => ?_) rfl))
      rw [(makeRoom_none_iff sound).2 full.2] at room
      cases room

end

/-- Settles O24: the table overwritten, or written with the room that R60 makes. -/
theorem profilePresetWrites : Obligations.ProfilePresetWrites := by
  intro tag kc u pin s sound
  dsimp only
  rw [← presetProfile_eq]
  refine ⟨judgedBy_profilePreset sound tag kc u pin, fun zero present => ?_, fun after evicted zero absent creates => ?_⟩
  · obtain ⟨p, -, -, found⟩ := findProfile_present sound present
    exact ⟨rfl, _, read_preset false 0, exec_profilePreset_found zero found kc u pin⟩
  · obtain ⟨t, room, placed⟩ := makeRoom_of_creates sound absent creates
    rw [← placed]
    exact ⟨rfl, _, read_preset true evicted, exec_profilePreset_room zero (findProfile_absent absent) room kc u pin⟩

/-! ### PROFILE_DROP (R64) -/

section
variable {s : State} {tag : Tag}

theorem exec_profileDrop_absent (absent : ∀ p ∈ s.profiles, p.tag ≠ tag) :
    exec (.profileDrop tag) s = .next (refuse .noProfile s) := by
  simp [exec, execProfileDrop, profileDrop, findProfile_absent absent]

theorem exec_profileDrop_used (sound : ProfilesSound s) (present : ∃ p ∈ s.profiles, p.tag = tag) (used : Referenced s tag) :
    exec (.profileDrop tag) s = .next (refuse .inUse s) := by
  obtain ⟨p, -, -, found⟩ := findProfile_present sound present
  have used' := (referenced_iff s tag).2 ⟨tag_ne_zero sound present, used⟩
  simp [exec, execProfileDrop, profileDrop, found, used']

theorem exec_profileDrop_free (sound : ProfilesSound s) (present : ∃ p ∈ s.profiles, p.tag = tag) (free : ¬Referenced s tag) :
    exec (.profileDrop tag) s = .next (answer .ok [] { s with profiles := withoutProfile s tag }) := by
  obtain ⟨p, -, -, found⟩ := findProfile_present sound present
  have free' : ¬referenced s tag = true := fun used => free ((referenced_iff s tag).1 used).2
  simp [exec, execProfileDrop, profileDrop, found, free']

end

/-- Settles O25: the three outcomes of PROFILE_DROP. -/
theorem profileDropRemoves : Obligations.ProfileDropRemoves := by
  intro tag s sound
  refine ⟨?_, fun present free => ⟨rfl, [], rfl, exec_profileDrop_free sound present free⟩⟩
  by_cases absent : ∀ p ∈ s.profiles, p.tag ≠ tag
  · exact judgedBy_refusal (exec_profileDrop_absent absent) (firstOf_hit absent)
  have present : ∃ p ∈ s.profiles, p.tag = tag := by simpa using absent
  by_cases used : Referenced s tag
  · exact judgedBy_refusal (exec_profileDrop_used sound present used) (firstOf_miss absent (firstOf_hit used))
  · exact judgedBy_ok (exec_profileDrop_free sound present used) (firstOf_miss absent (firstOf_miss used rfl))

end Sys2Proof.ProfileTable
end

section
/-! Every step keeps the caps, windows, load record, tuning values, clock and profile table in their ranges (R56, R101 to
R108, R111, R190, R194). Most operations leave all of these as they are, which `settings` says once for each of them; the
others are taken one by one. -/

namespace Sys2Proof.SettingsRange

open Sys2Proof.Machine Sys2Proof.Safety Sys2Proof.OrderTable

/-! ### The settings of a state -/

/-- The settings of a state and nothing else of it: every other field at its reset value. -/
def settings (s : State) : State :=
  { State.reset with
    ceiling := s.ceiling, workingCap := s.workingCap, curtailCap := s.curtailCap, fallbackCap := s.fallbackCap
    windows := s.windows, load := s.load, tuning := s.tuning, clock := s.clock, profiles := s.profiles }

/-- The settings lie in their ranges. -/
structure SettingsSound (s : State) : Prop where
  caps : CapsSound s
  windows : ∀ k : Fin 4, WindowSound s.windows[k]
  load : LoadSound s.load
  tuning : TuningSound s.tuning
  clock : s.clock ≤ clockMax
  profiles : ProfilesSound s

theorem settingsSound_iff (s : State) : SettingsSound s ↔ LimitsSound s ∧ ProfilesSound s :=
  ⟨fun ⟨caps, windows, load, tuning, clock, profiles⟩ => ⟨⟨caps, windows, load, tuning, clock⟩, profiles⟩,
   fun ⟨⟨caps, windows, load, tuning, clock⟩, profiles⟩ => ⟨caps, windows, load, tuning, clock, profiles⟩⟩

theorem settingsSound_settings (s : State) : SettingsSound (settings s) ↔ SettingsSound s :=
  ⟨fun ⟨caps, windows, load, tuning, clock, profiles⟩ => ⟨caps, windows, load, tuning, clock, profiles⟩,
   fun ⟨caps, windows, load, tuning, clock, profiles⟩ => ⟨caps, windows, load, tuning, clock, profiles⟩⟩

/-- A state with the settings of a sound one is sound. -/
theorem SettingsSound.frame {s t : State} (h : SettingsSound s) (same : settings t = settings s) : SettingsSound t :=
  (settingsSound_settings t).1 (same ▸ (settingsSound_settings s).2 h)

/-! ### The operations that leave the settings as they are -/

section
variable (s : State)

@[simp] theorem settings_answer (code : RespCode) (payload : List Byte) : settings (answer code payload s) = settings s := rfl
@[simp] theorem settings_refuse (code : RespCode) : settings (refuse code s) = settings s := rfl
@[simp] theorem settings_raise (f : EventFlag) : settings (raise f s) = settings s := rfl
@[simp] theorem settings_setBay (b : Fin 32) (x : Bay) : settings (setBay s b x) = settings s := rfl
@[simp] theorem settings_setSlot (i : Fin 48) (x : Slot) : settings (setSlot s i x) = settings s := rfl
@[simp] theorem settings_putOrder (i : Fin 48) (o : Order) : settings (putOrder s i o) = settings s := rfl

@[simp] theorem settings_mapBays (f : Fin 32 → Bay → Bay) : settings (mapBays f s) = settings s := by simp [settings]

@[simp] theorem settings_mapSlots (f : Fin 48 → Slot → Slot) : settings (mapSlots f s) = settings s := by simp [settings]

theorem settings_rehead (b : Fin 32) (old : Option (Fin 48)) : settings (rehead s b old) = settings s := by
  obtain ⟨_, writes⟩ := rehead_writes s b old
  rw [writes]; rfl

theorem settings_closeOrder (i : Fin 48) (kind : OutcomeKind) : settings (closeOrder s i kind) = settings s := by
  obtain ⟨_, _, _, _, writes⟩ := closeOrder_writes s i kind
  rw [writes]; rfl

theorem settings_expire : settings (expire s) = settings s := by
  obtain ⟨_, _, _, _, writes⟩ := expire_writes s
  rw [writes]; rfl

/-! Passes (R73, R74) -/

@[simp] theorem settings_startPass : settings (startPass s) = settings s := by
  have started := (startPass_spec s).1
  generalize startPass s = t at started ⊢
  rw [started]; rfl

@[simp] theorem settings_requestPass : settings (requestPass s) = settings s := by
  unfold requestPass
  split
  · rfl
  · exact settings_startPass s

theorem settings_endPass : settings (endPass s) = settings s := by
  unfold endPass
  split
  · exact settings_startPass _
  · rfl

/-! The bay link (R123 to R142) -/

theorem settings_beginAllstop : settings (beginAllstop s) = settings s := by
  obtain ⟨_, _, _, writes⟩ := beginAllstop_writes s
  rw [writes]; rfl

theorem settings_requestAllstop (list : Word) : settings (requestAllstop list s) = settings s := by
  obtain ⟨_, _, _, _, _, _, writes⟩ := requestAllstop_writes list s
  rw [writes]; rfl

theorem settings_goOn (n : Nat) : settings (goOn s n) = settings s := by
  obtain ⟨_, _, _, _, _, _, _, writes⟩ := goOn_writes s n
  rw [writes]; rfl

theorem settings_cycleExpiry : settings (cycleExpiry s) = settings s := by
  unfold cycleExpiry
  dsimp only
  split
  · rfl
  · exact settings_goOn _ 0

theorem settings_sendAllstop : settings (sendAllstop s) = settings s := by
  unfold sendAllstop
  split
  · dsimp only
    split
    · exact settings_beginAllstop _
    · exact settings_goOn _ _
  · exact settings_beginAllstop s

theorem settings_beginHold : settings (beginHold s) = settings s := settings_mapBays _ _

theorem settings_holdEnd : settings (holdEnd s) = settings s := by
  unfold holdEnd
  dsimp only
  repeat' split
  · rfl
  · exact settings_goOn _ 0
  · rfl

theorem settings_miss (b : Fin 32) : settings (miss s b) = settings s := by
  obtain ⟨_, _, _, writes⟩ := miss_writes s b
  rw [writes]; rfl

theorem settings_validArrival (b : Fin 32) (seqSent echo : Nat) (t : Telemetry) :
    settings (validArrival s b seqSent echo t) = settings s := by
  obtain ⟨_, _, _, _, writes⟩ := validArrival_writes s b seqSent echo t
  rw [writes]; rfl

theorem settings_windowClose (chars : List RxChar) : settings (windowClose chars s) = settings s := by
  unfold windowClose
  dsimp only
  repeat' split
  · rfl
  · exact settings_miss _ _
  · exact settings_validArrival _ _ _ _ _
  · exact (settings_goOn _ _).trans (settings_miss _ _)
  · exact (settings_goOn _ _).trans (settings_validArrival _ _ _ _ _)

theorem settings_lapseBay (b : Fin 32) : settings (lapseBay b s) = settings s := by
  unfold lapseBay
  split
  · rfl
  · rfl

/-! Curtailment (R148 to R153) -/

theorem settings_curtailArrival : settings (curtailArrival s) = settings s := by
  have paused : settings (allBays.foldl curtailBay s) = settings s := by
    obtain ⟨_, _, writes⟩ := curtailBays_writes allBays s
    rw [writes]; rfl
  have requested := (settings_requestAllstop (allBays.foldl curtailBay s) (allstopList s)).trans paused
  unfold curtailArrival arrivalPass
  rw [settings_raise]
  split
  · exact (settings_startPass _).trans requested
  · exact (settings_startPass _).trans requested

theorem settings_judgeCurtailment (before : Bool) : settings (judgeCurtailment before s) = settings s := by
  unfold judgeCurtailment
  repeat' split
  · rfl
  · exact settings_curtailArrival s
  · exact settings_requestPass s

theorem settings_curtLineChange (level : Bool) : settings (curtLineChange level s) = settings s := by
  unfold curtLineChange
  dsimp only
  split
  · rfl
  · exact settings_judgeCurtailment _ _

theorem settings_sampleLine : settings (sampleLine s) = settings s := by
  unfold sampleLine
  split
  · exact settings_curtailArrival _
  · rfl

/-! The order commands that consult no profile (R20 to R22), and REARM (R163) -/

theorem settings_setLocked (locked : Bool) (h : WireHandle) : settings (setLocked locked h s) = settings s := by
  unfold setLocked
  repeat' split
  all_goals rfl

theorem settings_closeCommand (h : WireHandle) (force : Byte) : settings (closeCommand h force s) = settings s := by
  unfold closeCommand
  repeat' split
  · rfl
  · rfl
  · rfl
  · exact settings_closeOrder _ _ _

theorem settings_retireOrder (h : WireHandle) : settings (retireOrder h s) = settings s := by
  unfold retireOrder
  repeat' split
  all_goals rfl

theorem settings_rearmOrder (h : WireHandle) : settings (rearmOrder h s) = settings s := by
  unfold rearmOrder
  repeat' split
  · rfl
  · rfl
  · rfl
  · exact settings_requestPass _

end

/-! ### The profile table (R55 to R60) -/

section
variable {s : State}

theorem ProfilesSound.withoutProfile (h : ProfilesSound s) (tag : Tag) :
    ProfilesSound { s with profiles := withoutProfile s tag } := by
  obtain ⟨length, distinct, ranges⟩ := h
  exact ⟨(List.length_filter_le _ _).trans length, distinct.sublist (List.filter_sublist.map _),
    fun p mem => ranges p (List.mem_of_mem_filter mem)⟩

/-- Taking out the profile of a tag that has one makes room. -/
theorem length_withoutProfile_lt {tag : Tag} (present : ∃ q ∈ s.profiles, q.tag = tag) :
    (withoutProfile s tag).length < s.profiles.length := by
  obtain ⟨q, mem, same⟩ := present
  exact List.length_filter_lt_length_iff_exists.2 ⟨q, mem, by simpa using same⟩

theorem ProfilesSound.placeFirst (h : ProfilesSound s) {p : Profile} (sound : ProfileSound p)
    (room : (∃ q ∈ s.profiles, q.tag = p.tag) ∨ s.profiles.length < 64) : ProfilesSound (placeFirst s p) := by
  obtain ⟨length', distinct, ranges⟩ := ProfilesSound.withoutProfile h p.tag
  have fits : (Machine.withoutProfile s p.tag).length < 64 :=
    room.elim (fun present => (length_withoutProfile_lt present).trans_le h.1)
      fun room => (List.length_filter_le _ _).trans_lt room
  refine ⟨fits, List.nodup_cons.2 ⟨?_, distinct⟩, List.forall_mem_cons.2 ⟨sound, ranges⟩⟩
  simp [Machine.withoutProfile]

theorem SettingsSound.withProfiles (h : SettingsSound s) {profiles : List Profile}
    (sound : ProfilesSound { s with profiles := profiles }) :
    SettingsSound { s with profiles := profiles } :=
  ⟨h.caps, h.windows, h.load, h.tuning, h.clock, sound⟩

theorem SettingsSound.placeFirst (h : SettingsSound s) {p : Profile} (sound : ProfileSound p)
    (room : (∃ q ∈ s.profiles, q.tag = p.tag) ∨ s.profiles.length < 64) : SettingsSound (placeFirst s p) :=
  h.withProfiles (ProfilesSound.placeFirst h.profiles sound room)

/-- The table that a creation finds is not full (R60). -/
theorem SettingsSound.makeRoom (h : SettingsSound s) {t : State} {evicted : Tag} (room : makeRoom s = some (t, evicted)) :
    SettingsSound t ∧ t.profiles.length < 64 := by
  unfold Machine.makeRoom at room
  split at room
  · next free => cases room; exact ⟨h, free⟩
  · obtain ⟨v, isVictim, rfl, rfl⟩ : ∃ v, victim s = some v ∧ { s with profiles := withoutProfile s v.tag } = t ∧ v.tag = evicted := by
      simpa using room
    have mem : v ∈ s.profiles := List.mem_reverse.1 (List.mem_of_find?_eq_some isVictim)
    exact ⟨h.withProfiles (ProfilesSound.withoutProfile h.profiles v.tag),
      (length_withoutProfile_lt ⟨v, mem, rfl⟩).trans_le h.profiles.1⟩

theorem profileSound_freshProfile {tag : Tag} (zero : tag ≠ 0) : ProfileSound (freshProfile tag) :=
  ⟨zero, by simp [freshProfile], by simp [freshProfile], by simp [freshProfile]⟩

theorem profileSound_presetProfile {tag : Tag} (zero : tag ≠ 0) (kc u pin : Byte) : ProfileSound (presetProfile tag kc u pin) := by
  refine ⟨zero, ?_, ?_, Nat.zero_le _⟩ <;> simp only [presetProfile, clamp] <;> omega

theorem SettingsSound.consult (h : SettingsSound s) (tag : Tag) : SettingsSound (consult s tag).1 := by
  unfold Machine.consult
  split
  · exact h
  next zero =>
  split
  · next p found =>
    obtain ⟨-, mem, -⟩ := findProfile_some found
    exact h.placeFirst (h.profiles.2.2 p mem) (.inl ⟨p, mem, rfl⟩)
  split
  · next t _ room =>
    obtain ⟨sound, free⟩ := h.makeRoom room
    exact sound.placeFirst (profileSound_freshProfile zero) (.inr free)
  · exact h

theorem SettingsSound.profilePreset (h : SettingsSound s) (tag : Word) (kc u pin : Byte) :
    SettingsSound (profilePreset tag kc u pin s) := by
  unfold Machine.profilePreset
  split
  · exact h.frame rfl
  next zero =>
  have sound := profileSound_presetProfile zero kc u pin
  split
  · next p found =>
    obtain ⟨-, mem, same⟩ := findProfile_some found
    exact (h.placeFirst sound (.inl ⟨p, mem, same⟩)).frame rfl
  split
  · exact h.frame rfl
  · next t _ room =>
    obtain ⟨roomy, free⟩ := h.makeRoom room
    exact (roomy.placeFirst sound (.inr free)).frame rfl

theorem SettingsSound.profileDrop (h : SettingsSound s) (tag : Word) : SettingsSound (profileDrop tag s) := by
  unfold Machine.profileDrop
  repeat' split
  · exact h.frame rfl
  · exact h.frame rfl
  · exact (h.withProfiles (ProfilesSound.withoutProfile h.profiles tag)).frame rfl

/-! ### OPEN and AMEND (R14, R19) -/

theorem settings_createOrder (s : State) (i : Fin 48) (o : Order) : settings (createOrder s i o) = settings (consult s o.tag).1 :=
  settings_rehead _ _ _

theorem SettingsSound.openOrder (h : SettingsSound s) (bay : Byte) (tag departure : Word) (target : Half)
    (band priority options : Byte) : SettingsSound (openOrder bay tag departure target band priority options s) := by
  unfold Machine.openOrder
  repeat' split
  · exact h.frame rfl
  · exact h.frame rfl
  · exact h.frame rfl
  · exact h.frame rfl
  · exact (h.consult _).frame (settings_createOrder s _ _)
  · exact h.frame rfl

/-- AMEND consults the table for a new tag only. -/
theorem SettingsSound.applyAmend (h : SettingsSound s) (i : Fin 48) (o : Order) (c : Changes) : SettingsSound (applyAmend s i o c) := by
  have tagged : SettingsSound (amendWritten s i o (amendedOrder o c)) := by
    unfold amendWritten
    split
    · have written : SettingsSound (putOrder s i (amendedOrder o c)) := h.frame rfl
      exact (written.consult (amendedOrder o c).tag).frame rfl
    · exact h.frame rfl
  rw [applyAmend_eq]
  split
  · exact tagged.frame (settings_rehead _ _ _)
  · exact tagged

theorem SettingsSound.amendOrder (h : SettingsSound s) (handle : WireHandle) (force changes : Byte) (departure : Word) (target : Half)
    (band priority : Byte) (tag : Word) : SettingsSound (amendOrder handle force changes departure target band priority tag s) := by
  unfold Machine.amendOrder
  dsimp only
  split
  · exact h.frame rfl
  split
  · exact h.frame rfl
  next i o _ =>
  have amended := (h.applyAmend i o (changesOf force changes departure target band priority tag)).frame (settings_answer _ .ok [])
  repeat' split
  · exact h.frame rfl
  · exact h.frame rfl
  · exact h.frame rfl
  · exact amended
  · exact h.frame rfl
  · exact h.frame rfl
  · exact amended

/-! ### Learning at a publish (R65 to R68) -/

theorem observedKc_range {loss activeTime dT energy obs : Nat} (h : observedKc loss activeTime dT energy = some obs) :
    10 ≤ obs ∧ obs ≤ 250 := by
  simp only [observedKc, clamp] at h
  split at h
  · cases h
  · cases h; omega

theorem profileSound_learn {p : Profile} (h : ProfileSound p) {obs : Nat} (range : 10 ≤ obs ∧ obs ≤ 250) :
    ProfileSound (p.learn obs) := by
  obtain ⟨zero, kc, u, -⟩ := h
  refine ⟨zero, ?_, u, Nat.min_le_left _ _⟩
  simp only [Profile.learn]
  split <;> omega

/-- A sample updates a profile that is in the table. -/
theorem learnedProfile_sound (h : ProfilesSound s) {o : Order} {now : Nat} {cabin : Option Int} {q : Profile}
    (learned : learnedProfile s o now cabin = some q) : ProfileSound q ∧ ∃ p ∈ s.profiles, p.tag = q.tag := by
  unfold learnedProfile at learned
  split at learned
  · next p a c found _ =>
    obtain ⟨-, mem, -⟩ := findProfile_some found
    dsimp only at learned
    split at learned
    · obtain ⟨obs, observed, rfl⟩ := Option.map_eq_some_iff.1 learned
      exact ⟨profileSound_learn (h.2.2 p mem) (observedKc_range observed), p, mem, rfl⟩
    · cases learned
  all_goals cases learned

theorem SettingsSound.learningPoint (h : SettingsSound s) (now : Nat) (r : PassResult) (o : Order) :
    SettingsSound (learningPoint s now r o) := by
  unfold Machine.learningPoint
  dsimp only
  have marked : SettingsSound (setSlot s r.head.slot { slotAt s r.head.slot with learnMark := true }) := h.frame rfl
  split
  · exact marked
  · next p learned =>
    obtain ⟨sound, present⟩ := learnedProfile_sound h.profiles learned
    exact (marked.placeFirst sound (.inl present)).frame rfl

theorem SettingsSound.applyResult (h : SettingsSound s) (now : Nat) (r : PassResult) : SettingsSound (applyResult s now r) := by
  unfold Machine.applyResult
  split
  · exact h
  next o _ =>
  have written : SettingsSound (putOrder s r.head.slot (r.write now o)) := h.frame rfl
  dsimp only
  split
  · exact written.learningPoint now r _
  · exact written

theorem SettingsSound.applyResults (h : SettingsSound s) (now : Nat) (rs : List PassResult) :
    SettingsSound (applyResults now s rs).1 := by
  induction rs generalizing s with
  | nil => exact h
  | cons r rest ih =>
    unfold Machine.applyResults
    split
    · exact ih (h.applyResult now r)
    · exact ih h

theorem SettingsSound.publishPass (h : SettingsSound s) : SettingsSound (publishPass s) := by
  unfold Machine.publishPass
  split
  · exact h
  next p _ =>
  dsimp only
  have done := h.applyResults p.snap.now (passResults p.snap)
  generalize Machine.applyResults p.snap.now s (passResults p.snap) = applied at done ⊢
  obtain ⟨bays, writes⟩ := publishGrants_writes applied.2 allBays applied.1
  rw [writes]
  refine SettingsSound.frame ?_ (settings_endPass _)
  split
  · exact done.frame rfl
  · exact done.frame rfl

/-! ### Caps, windows and the load record (R101 to R113) -/

theorem SettingsSound.setCeiling (h : SettingsSound s) (value : Half) : SettingsSound (setCeiling value s) := by
  unfold Machine.setCeiling
  split
  · next unset =>
    obtain ⟨-, -, fallback, curtail⟩ := h.caps
    have range : clamp 1 20000 value.toNat ≤ 20000 := by simp only [clamp]; omega
    have fallback' : s.fallbackCap ≤ clamp 1 20000 value.toNat := by omega
    exact ⟨⟨range, Nat.le_refl _, fallback', curtail⟩, h.windows, h.load, h.tuning, h.clock, h.profiles⟩
  · exact h.frame rfl

theorem SettingsSound.setWorkingCap (h : SettingsSound s) (value : Half) : SettingsSound (setWorkingCap value s) := by
  obtain ⟨ceiling, -, fallback, curtail⟩ := h.caps
  exact ⟨⟨ceiling, Nat.min_le_right _ _, fallback, curtail⟩, h.windows, h.load, h.tuning, h.clock, h.profiles⟩

theorem SettingsSound.setCurtailCap (h : SettingsSound s) (value : Half) : SettingsSound (setCurtailCap value s) := by
  obtain ⟨ceiling, working, fallback, -⟩ := h.caps
  exact ⟨⟨ceiling, working, fallback, Nat.min_le_right _ _⟩, h.windows, h.load, h.tuning, h.clock, h.profiles⟩

theorem SettingsSound.setFallbackCap (h : SettingsSound s) (value : Half) : SettingsSound (setFallbackCap value s) := by
  obtain ⟨ceiling, working, -, curtail⟩ := h.caps
  exact ⟨⟨ceiling, working, Nat.min_le_right _ _, curtail⟩, h.windows, h.load, h.tuning, h.clock, h.profiles⟩

theorem SettingsSound.setFeeder (h : SettingsSound s) (feeder base limit : Byte) (cap : Half) :
    SettingsSound (setFeeder feeder base limit cap s) := by
  unfold Machine.setFeeder
  split
  · exact h.frame rfl
  next k _ =>
  refine ⟨h.caps, fun j => ?_, h.load, h.tuning, h.clock, h.profiles⟩
  simp only [answer_windows, Fin.getElem_fin, Vector.getElem_set]
  split
  · exact ⟨Nat.min_le_right _ _, Nat.min_le_right _ _, Nat.min_le_right _ _⟩
  · exact h.windows j

theorem loadSound_reportedLoad (site : Half) (loads : List Half) : LoadSound (reportedLoad site loads) := by
  refine ⟨Nat.min_le_right _ _, fun k => ?_, fun _ => by simp [reportedLoad]⟩
  simp only [reportedLoad, Fin.getElem_fin, Vector.getElem_ofFn]
  split
  · exact Nat.min_le_right _ _
  · exact Nat.zero_le _

theorem loadSound_initial : LoadSound LoadRecord.initial := by
  unfold LoadSound
  decide

theorem SettingsSound.reportLoad (h : SettingsSound s) (site : Half) (count : Byte) (loads : List Half) :
    SettingsSound (reportLoad site count loads s) := by
  unfold Machine.reportLoad
  repeat' split
  · exact h.frame rfl
  · exact h.frame rfl
  · exact ⟨h.caps, h.windows, loadSound_reportedLoad site loads, h.tuning, h.clock, h.profiles⟩

theorem SettingsSound.loadStaleTransition (h : SettingsSound s) : SettingsSound (loadStaleTransition s) := by
  unfold Machine.loadStaleTransition
  split
  · exact h
  · obtain ⟨site, feeders, -⟩ := h.load
    exact ⟨h.caps, h.windows, ⟨site, feeders, fun fresh => by cases fresh⟩, h.tuning, h.clock, h.profiles⟩

/-! ### The tuning values and the clock (R190 to R195) -/

theorem SettingsSound.setTuning (h : SettingsSound s) {t : Tuning} (tuning : TuningSound t) : SettingsSound (setTuning t s) := by
  have written : SettingsSound { s with tuning := t } := ⟨h.caps, h.windows, h.load, tuning, h.clock, h.profiles⟩
  unfold Machine.setTuning
  dsimp only
  split
  · exact written.loadStaleTransition.frame rfl
  · exact written.frame rfl

theorem SettingsSound.expireAt (h : SettingsSound s) {now : Nat} (range : now ≤ clockMax) :
    SettingsSound (expire { s with clock := now, phase := 0 }) :=
  have written : SettingsSound { s with clock := now, phase := 0 } := ⟨h.caps, h.windows, h.load, h.tuning, range, h.profiles⟩
  written.frame (settings_expire _)

theorem SettingsSound.clockAdvance (h : SettingsSound s) : SettingsSound (clockAdvance s) := by
  unfold Machine.clockAdvance
  split
  · exact h.frame rfl
  · next below => exact h.expireAt (Nat.lt_of_not_le below)

/-! ### The resets (R71, R101 to R108, R114, R194) -/

theorem settingsSound_reset : SettingsSound State.reset := by
  have windows : ∀ k : Fin 4, WindowSound Window.initial[k] := by unfold WindowSound; decide
  have tuning : TuningSound Tuning.initial := by unfold TuningSound; decide
  have profiles : ProfilesSound State.reset := ⟨Nat.zero_le _, List.nodup_nil, fun p mem => by cases mem⟩
  exact ⟨⟨Nat.zero_le _, Nat.le_refl _, Nat.le_refl _, Nat.zero_le _⟩, windows, loadSound_initial, tuning, Nat.zero_le _, profiles⟩

theorem settingsSound_powerOnReset (curt : Bool) (s : State) : SettingsSound (powerOnReset curt s) :=
  settingsSound_reset.frame (settings_sampleLine _)

theorem SettingsSound.pinReset (h : SettingsSound s) (curt : Bool) : SettingsSound (pinReset curt s) := by
  obtain ⟨-, windows, load, tuning, clock, -⟩ := settingsSound_reset
  refine SettingsSound.frame ?_ (settings_sampleLine _)
  exact ⟨⟨h.caps.1, Nat.le_refl _, Nat.zero_le _, Nat.zero_le _⟩, windows, load, tuning, clock, h.profiles⟩

theorem SettingsSound.softReset (h : SettingsSound s) : SettingsSound (softReset s) := by
  have unreported : SettingsSound { s with load := .initial } :=
    ⟨h.caps, h.windows, loadSound_initial, h.tuning, h.clock, h.profiles⟩
  refine unreported.frame ?_
  unfold Machine.softReset
  rw [settings_sampleLine, settings_mapBays, settings_mapSlots]
  rfl

/-! ### Every command, every event, every step -/

theorem SettingsSound.runCommand (h : SettingsSound s) {i : Instr} {t : State} (run : runCommand i s = .next t) : SettingsSound t := by
  cases i with
  | setClock c => cases run; exact (h.expireAt (word_le_clockMax c)).frame rfl
  | setTuning p d l st sel band => cases run; exact h.setTuning (tuningSound_tuningOf p d l st sel band)
  | softReset => cases run; exact h.softReset
  | openOrder => cases run; exact h.openOrder ..
  | amend => cases run; exact h.amendOrder ..
  | lock | unlock => cases run; exact h.frame (settings_setLocked ..)
  | close => cases run; exact h.frame (settings_closeCommand ..)
  | retire => cases run; exact h.frame (settings_retireOrder ..)
  | rearm => cases run; exact h.frame (settings_rearmOrder ..)
  | profilePreset => cases run; exact h.profilePreset ..
  | profileDrop => cases run; exact h.profileDrop _
  | setCeiling v => cases run; exact h.setCeiling v
  | setWorkingCap v => cases run; exact h.setWorkingCap v
  | setCurtailCap v => cases run; exact h.setCurtailCap v
  | setFallbackCap v => cases run; exact h.setFallbackCap v
  | setFeeder => cases run; exact h.setFeeder ..
  | reportLoad => cases run; exact h.reportLoad ..
  | linkReset => cases run; exact h.frame (settings_beginHold s)
  | enableBays => cases run; exact h.frame ((settings_answer _ _ _).trans (settings_mapBays s _))
  | allocateNow => cases run; exact h.frame ((settings_answer _ _ _).trans (settings_requestPass s))
  | curtail v => cases run; exact h.frame (settings_judgeCurtailment _ _)
  | lookup | findByBay | findByTag | findByState | profileRead | readBay =>
    cases run
    simp only [lookupOrder, findByBay, findByTag, findByState, profileRead, readBay]
    repeat' split
    all_goals exact h.frame rfl
  | nop | status | clearStatus | setAttnMask | readClock | readBudget => cases run; exact h.frame rfl
  | frameError | shortTransfer | powerOnReset | pinReset | curtLineChange | allstop | clockAdvance | periodTimerExpiry | publish
  | cycleTimerExpiry | replyWindowClose | linkResetHoldEnd | lapse | reversalTimerExpiry | loadStaleTransition =>
    cases run
    exact h

theorem SettingsSound.execFrameError (h : SettingsSound s) {bytes : List Byte} {t : State} (run : execFrameError bytes s = .next t) :
    SettingsSound t := by
  unfold Machine.execFrameError at run
  split at run
  · cases run; exact h
  · cases run; exact h.frame rfl
  · exact h.runCommand run

theorem SettingsSound.periodExpiry (h : SettingsSound s) : SettingsSound (periodExpiry s) := h.frame (settings_requestPass _)

theorem SettingsSound.exec (h : SettingsSound s) {i : Instr} {t : State} (run : exec i s = .next t) : SettingsSound t := by
  have command (same : Machine.exec i s = Machine.runCommand i s) : SettingsSound t := h.runCommand (same.symm.trans run)
  cases i with
  | frameError bytes => exact h.execFrameError run
  | shortTransfer => cases run; exact h
  | powerOnReset curt => cases run; exact settingsSound_powerOnReset curt s
  | pinReset curt => cases run; exact h.pinReset curt
  | curtLineChange level => cases run; exact h.frame (settings_curtLineChange s level)
  | allstop => cases run; exact h.frame (settings_sendAllstop s)
  | clockAdvance => cases run; exact h.clockAdvance
  | periodTimerExpiry => cases run; exact h.periodExpiry
  | publish => cases run; exact h.publishPass
  | cycleTimerExpiry => cases run; exact h.frame (settings_cycleExpiry s)
  | replyWindowClose chars => cases run; exact h.frame (settings_windowClose s chars)
  | linkResetHoldEnd => cases run; exact h.frame (settings_holdEnd s)
  | lapse b => cases run; exact h.frame (settings_lapseBay s b)
  | reversalTimerExpiry b => cases run; exact h.frame rfl
  | loadStaleTransition => cases run; exact h.loadStaleTransition
  | nop | status | clearStatus | setAttnMask | readClock | setClock | setTuning | softReset | openOrder | amend | lock | unlock
  | close | retire | lookup | findByBay | findByTag | findByState | profileRead | profilePreset | profileDrop | setCeiling
  | setWorkingCap | setCurtailCap | setFallbackCap | setFeeder | reportLoad | readBudget | enableBays | linkReset | readBay
  | rearm | curtail | allocateNow => exact command rfl

theorem SettingsSound.takeEvent (h : SettingsSound s) (e : TimedEvent) : SettingsSound (takeEvent s e) := by
  cases e with
  | clock => exact h.clockAdvance
  | period => exact h.periodExpiry
  | cycle => exact h.frame (settings_cycleExpiry s)
  | hold => exact h.frame (settings_holdEnd s)
  | window => exact h.frame (settings_windowClose s [])
  | publish => exact h.publishPass
  | loadStale => exact h.loadStaleTransition
  | allstop => exact h.frame (settings_sendAllstop s)
  | curt => exact h.frame (settings_curtLineChange s _)
  | lapse b => exact h.frame (settings_lapseBay s b)
  | reversal b => exact h.frame rfl

/-- Of the settings, time alone moves the age of the load report. -/
theorem SettingsSound.elapse (h : SettingsSound s) : SettingsSound (elapse s) := by
  obtain ⟨site, feeders, reported⟩ := h.load
  have aged : SettingsSound { s with load := { s.load with age := s.load.age.map fun a => a + Config.tickCycles } } :=
    ⟨h.caps, h.windows, ⟨site, feeders, fun fresh => by simpa using reported fresh⟩, h.tuning, h.clock, h.profiles⟩
  refine aged.frame ?_
  unfold Machine.elapse
  rw [settings_mapBays]
  dsimp only [settings]

theorem SettingsSound.passTime (h : SettingsSound s) : SettingsSound (passTime s) := by
  unfold Machine.passTime
  refine foldl_keeps SettingsSound _ (fun u e hu => ?_) _ _ (h.elapse.frame rfl)
  split
  · exact hu.takeEvent e
  · exact hu

theorem SettingsSound.tick (h : SettingsSound s) : SettingsSound (tick s) := by
  unfold Machine.tick
  split
  · exact h.frame rfl
  · exact h.passTime

theorem SettingsSound.step (h : SettingsSound s) {t : State} (run : step s = .next t) : SettingsSound t := by
  unfold Machine.step at run
  split at run
  · cases run; exact h.tick
  · next c rest _ =>
    have taken : SettingsSound { s with pending := rest } := h.frame rfl
    exact taken.exec run

end

/-- Settles O55: `SettingsSound` is kept by every step. -/
theorem settingsStayInRange : Obligations.SettingsStayInRange := by
  intro s t limits profiles run
  exact (settingsSound_iff t).1 (((settingsSound_iff s).2 ⟨limits, profiles⟩).step run)

end Sys2Proof.SettingsRange
end

section
/-! The distribution of a pass (R87 to R91, R110): the ranking, the two rounds, and what they may charge to each budget. -/

namespace Sys2Proof.Allocation

open Sys2Proof.Machine Sys2Proof.Safety

/-! ### The ranking (R87) -/

theorem code_inj {p q : Priority} (same : p.code = q.code) : p = q := by
  cases p <;> cases q <;> simp [Priority.code] at same ⊢

/-- The share `a` does not stand behind `b` in rank. -/
def UpTo (a b : Share) : Prop := b.before a = false

theorem upTo_iff (a b : Share) :
    UpTo a b ↔
      b.priority.code < a.priority.code
        ∨ (a.priority = b.priority ∧ (a.slack < b.slack ∨ (a.slack = b.slack ∧ a.bay ≤ b.bay))) := by
  unfold UpTo Share.before
  by_cases priority : b.priority = a.priority
  · by_cases slack : b.slack = a.slack
    · simp [priority, slack]
    · simp only [priority, slack, true_and, ne_eq, not_true, not_false_eq_true, if_true, if_false, decide_eq_false_iff_not]
      omega
  · have codes : b.priority.code ≠ a.priority.code := fun same => priority (code_inj same)
    simp only [ne_eq, priority, Ne.symm priority, not_false_eq_true, if_true, decide_eq_false_iff_not, false_and, or_false]
    omega

theorem upTo_total (a b : Share) : UpTo a b ∨ UpTo b a := by
  rw [upTo_iff, upTo_iff]
  by_cases priority : a.priority = b.priority
  · simp only [priority, true_and]
    omega
  · have codes : a.priority.code ≠ b.priority.code := fun same => priority (code_inj same)
    omega

theorem upTo_trans {a b c : Share} (ab : UpTo a b) (bc : UpTo b c) : UpTo a c := by
  rw [upTo_iff] at ab bc ⊢
  rcases ab with ab | ⟨ab, ab'⟩
  · rcases bc with bc | ⟨bc, -⟩
    · exact .inl (bc.trans ab)
    · exact .inl (bc ▸ ab)
  · rcases bc with bc | ⟨bc, bc'⟩
    · exact .inl (ab ▸ bc)
    · exact .inr ⟨ab.trans bc, by omega⟩

theorem rank_eq_insertionSort (l : List Share) : rank l = l.insertionSort (fun a b => b.before a = false) := by
  have insert (a : Share) (l : List Share) : insertByRank a l = l.orderedInsert (fun a b => b.before a = false) a := by
    induction l with
    | nil => rfl
    | cons b rest ih => cases before : b.before a <;> simp [insertByRank, before, ih]
  induction l with
  | nil => rfl
  | cons a rest ih => rw [rank, insert, ih, List.insertionSort_cons]

theorem rank_perm (l : List Share) : (rank l).Perm l := rank_eq_insertionSort l ▸ List.perm_insertionSort _ l

theorem rank_sorted (l : List Share) : (rank l).Pairwise UpTo := by
  have total : Std.Total UpTo := ⟨upTo_total⟩
  have trans : IsTrans Share UpTo := ⟨fun _ _ _ => upTo_trans⟩
  rw [rank_eq_insertionSort]
  exact @List.pairwise_insertionSort Share UpTo (fun a b => inferInstanceAs (Decidable (b.before a = false))) total trans l

/-! ### Budgets and what the shares draw on them (R88, R110) -/

/-- A budget of a pass: that of a feeder, or for `none` that of the site. -/
abbrev Budget := Option (Fin 4)

/-- What a purse has left of a budget. -/
def left (β : Budget) (p : Purse) : Nat :=
  match β with
  | none => p.site
  | some k => p.feeders[k]

/-- The budget is charged for the share: the site's always, a feeder's for its own bays. -/
def draws (β : Budget) (a : Share) : Bool :=
  match β with
  | none => true
  | some k => decide (a.feeder = k)

/-- The steps of a share above those its bay holds. -/
def extra (a : Share) : Nat := a.new - a.held

/-- What the shares of a list draw on a budget above what their bays hold. -/
def drawn (β : Budget) (l : List Share) : Nat := ((l.filter (draws β)).map extra).sum

theorem left_spend (β : Budget) (p : Purse) (a : Share) (cost : Nat) :
    left β (p.spend a.feeder cost) = left β p - if draws β a then cost else 0 := by
  cases β with
  | none => rfl
  | some k =>
    simp only [left, draws, Purse.spend, Fin.getElem_fin, Vector.getElem_set, decide_eq_true_eq, Fin.ext_iff]
    split
    · next same => simp only [same]
    · rfl

/-- A cost that fits the site's budget and that of the share's feeder fits each budget it is drawn on. -/
theorem le_left {β : Budget} {p : Purse} {a : Share} {cost : Nat} (site : cost ≤ p.site) (feeder : cost ≤ p.feeders[a.feeder])
    (drawn : draws β a = true) : cost ≤ left β p := by
  cases β with
  | none => exact site
  | some k =>
    obtain rfl : a.feeder = k := by simpa [draws] using drawn
    exact feeder

/-! ### One order in a round (R89, R90) -/

/-- Round 1 gives 5 steps where the budgets left allow what they take above the holding, and nothing otherwise. -/
theorem roundOne_new (p : Purse) (a : Share) :
    (roundOne p a).2 = { a with new := if 5 - a.held ≤ p.site ∧ 5 - a.held ≤ p.feeders[a.feeder] then 5 else 0 } := by
  simp only [roundOne]
  split <;> rfl

/-- Round 2 leaves an order without a first grant as it is and raises another as far as its demand and the budgets left. -/
theorem roundTwo_new (p : Purse) (a : Share) :
    (roundTwo p a).2 =
      { a with
        new := if a.new < 5 then a.new
          else a.new + min (a.demand - a.new)
            (min (p.site + (a.held - a.new)) (p.feeders[a.feeder] + (a.held - a.new))) } := by
  simp only [roundTwo]
  split <;> rfl

/-- A budget pays for a share in round 1 what the share takes above its bay's holding. -/
theorem roundOne_pays (β : Budget) (p : Purse) (a : Share) :
    left β (roundOne p a).1 + (if draws β a then extra (roundOne p a).2 else 0) = left β p := by
  simp only [roundOne, extra]
  split
  · next fits =>
    have enough := le_left (β := β) fits.1 fits.2
    rw [left_spend]
    split
    · next drawn => have := enough drawn; dsimp only; omega
    · rfl
  · simp

/-- A budget pays for a share in round 2 what the share gains above its bay's holding. -/
theorem roundTwo_pays (β : Budget) (p : Purse) (a : Share) :
    left β (roundTwo p a).1 + (if draws β a then extra (roundTwo p a).2 else 0)
      = left β p + if draws β a then extra a else 0 := by
  simp only [roundTwo, extra]
  split
  · rfl
  · generalize grown : min (a.demand - a.new) _ = raised
    have site : max a.held (a.new + raised) - max a.held a.new ≤ p.site := by omega
    have feeder : max a.held (a.new + raised) - max a.held a.new ≤ p.feeders[a.feeder] := by omega
    have enough := le_left (β := β) site feeder
    rw [left_spend]
    split
    · next drawn => have := enough drawn; dsimp only; omega
    · rfl

/-! ### A round over the ranked orders -/

section
variable {f : Purse → Share → Purse × Share}

theorem runRound_append (p : Purse) (l m : List Share) :
    (runRound f p (l ++ m)).2 = (runRound f p l).2 ++ (runRound f (runRound f p l).1 m).2 := by
  induction l generalizing p with
  | nil => rfl
  | cons a rest ih => simp only [List.cons_append, runRound, ih]

/-- What every order's turn gives holds of every share that a round leaves. -/
theorem of_mem_runRound {P : Share → Prop} {p : Purse} {l : List Share} (turn : ∀ q, ∀ a ∈ l, P (f q a).2) :
    ∀ a ∈ (runRound f p l).2, P a := by
  induction l generalizing p with
  | nil => nofun
  | cons b rest ih =>
    refine List.forall_mem_cons.2 ⟨turn p b List.mem_cons_self, ih fun q a mem => turn q a (List.mem_cons_of_mem b mem)⟩

/-- A round changes what the turns change of each share. -/
theorem map_runRound {α : Type} {g : Share → α} (keeps : ∀ p a, g (f p a).2 = g a) (p : Purse) (l : List Share) :
    (runRound f p l).2.map g = l.map g := by
  induction l generalizing p with
  | nil => rfl
  | cons a rest ih => simp only [runRound, List.map_cons, keeps, ih]

/-- A budget pays over a round what it pays in each turn. -/
theorem runRound_pays {β : Budget} {before : Share → Nat} (keeps : ∀ p a, draws β (f p a).2 = draws β a)
    (turn : ∀ p a, left β (f p a).1 + (if draws β a then extra (f p a).2 else 0) = left β p + if draws β a then before a else 0)
    (p : Purse) (l : List Share) :
    left β (runRound f p l).1 + drawn β (runRound f p l).2 = left β p + ((l.filter (draws β)).map before).sum := by
  induction l generalizing p with
  | nil => rfl
  | cons a rest ih =>
    have one := turn p a
    have others := ih (f p a).1
    unfold drawn at others ⊢
    simp only [runRound, List.filter_cons, keeps]
    split
    · next pays =>
      simp only [pays, if_true, List.map_cons, List.sum_cons] at one ⊢
      omega
    · next free =>
      simp only [free, Bool.false_eq_true, if_false] at one
      omega

end

/-! ### Both rounds -/

/-- The rounds write the new steps of a share and nothing else of it. -/
def bare (a : Share) : Share := { a with new := 0 }

theorem bare_roundOne (p : Purse) (a : Share) : bare (roundOne p a).2 = bare a := by rw [roundOne_new]; rfl

theorem bare_roundTwo (p : Purse) (a : Share) : bare (roundTwo p a).2 = bare a := by rw [roundTwo_new]; rfl

theorem draws_bare (β : Budget) (a : Share) : draws β (bare a) = draws β a := by cases β <;> rfl

theorem draws_of_bare {β : Budget} {a b : Share} (same : bare a = bare b) : draws β a = draws β b := by
  rw [← draws_bare, same, draws_bare]

theorem roundOne_drawn (β : Budget) (p : Purse) (l : List Share) :
    left β (runRound roundOne p l).1 + drawn β (runRound roundOne p l).2 = left β p := by
  have paid := runRound_pays (before := fun _ => 0) (fun p a => draws_of_bare (bare_roundOne p a))
    (fun p a => by simpa using roundOne_pays β p a) p l
  simpa using paid

theorem roundTwo_drawn (β : Budget) (p : Purse) (l : List Share) :
    left β (runRound roundTwo p l).1 + drawn β (runRound roundTwo p l).2 = left β p + drawn β l :=
  runRound_pays (fun p a => draws_of_bare (bare_roundTwo p a)) (roundTwo_pays β) p l

/-- The shares after round 1 of a pass. -/
def firstShares (snap : Snapshot) (shares : List Share) : List Share := (runRound roundOne (openingPurse snap) (rank shares)).2

/-- The purse after round 1 of a pass. -/
def firstPurse (snap : Snapshot) (shares : List Share) : Purse := (runRound roundOne (openingPurse snap) (rank shares)).1

theorem distribute_eq (snap : Snapshot) (shares : List Share) :
    distribute snap shares = (runRound roundTwo (firstPurse snap shares) (firstShares snap shares)).2 := rfl

section
variable (snap : Snapshot) (shares : List Share)

theorem bare_firstShares : (firstShares snap shares).map bare = (rank shares).map bare := map_runRound bare_roundOne _ _

theorem bare_distribute : (distribute snap shares).map bare = (rank shares).map bare :=
  (map_runRound bare_roundTwo _ _).trans (bare_firstShares snap shares)

/-- Each budget pays for the distribution out of what the charges at the snapshot leave of it. -/
theorem drawn_distribute_le (β : Budget) : drawn β (distribute snap shares) ≤ left β (openingPurse snap) := by
  have first := roundOne_drawn β (openingPurse snap) (rank shares)
  have second := roundTwo_drawn β (firstPurse snap shares) (firstShares snap shares)
  rw [← distribute_eq] at second
  unfold firstPurse firstShares at second
  omega

end

/-! ### The charges of a budget (R88 to R90) -/

/-- The bay is charged to the budget. -/
def feeds (snap : Snapshot) (β : Budget) (b : Fin 32) : Bool :=
  match β with
  | none => true
  | some k => decide (snap.bays[b].feeder = some k)

/-- The headroom of a budget at the snapshot. -/
def headroom (snap : Snapshot) (β : Budget) : Nat :=
  match β with
  | none => snap.site
  | some k => snap.feeders[k]

/-- The sum over the bays that a budget is charged for. -/
def budgetSum (snap : Snapshot) (β : Budget) (charge : Fin 32 → Nat) : Nat := ∑ b, if feeds snap β b then charge b else 0

theorem sum_allBays (charge : Fin 32 → Nat) : (allBays.map charge).sum = ∑ b, charge b := (Fin.sum_univ_def charge).symm

theorem budgetSum_site (snap : Snapshot) (charge : Fin 32 → Nat) : budgetSum snap none charge = (allBays.map charge).sum :=
  (sum_allBays charge).symm

theorem budgetSum_feeder (snap : Snapshot) (k : Fin 4) (charge : Fin 32 → Nat) :
    budgetSum snap (some k) charge = ((allBays.filter fun b => decide (snap.bays[b].feeder = some k)).map charge).sum := by
  have split := List.sum_map_ite (fun b => snap.bays[b].feeder = some k) charge (fun _ => 0) allBays
  rw [sum_allBays] at split
  simpa [budgetSum, feeds] using split

/-- What a pass may spend of a budget: the headroom without the charges at the snapshot. -/
theorem left_openingPurse (snap : Snapshot) (β : Budget) :
    left β (openingPurse snap) = headroom snap β - budgetSum snap β fun b => heldCharge snap.bays[b] := by
  cases β with
  | none => rw [budgetSum_site]; rfl
  | some k =>
    simp only [left, openingPurse, headroom, Fin.getElem_fin, Vector.getElem_ofFn, feederSum, sum_allBays, budgetSum, feeds,
      decide_eq_true_eq]

/-- The steps that a list of shares gives a bay. -/
def stepsFor (shares : List Share) (b : Fin 32) : Nat :=
  match shares.find? fun a => a.bay == b with
  | some a => a.new
  | none => 0

/-- The holding and the feeder of a share are those of its bay. -/
def OfSnapshot (snap : Snapshot) (a : Share) : Prop :=
  a.held = heldCharge snap.bays[a.bay] ∧ snap.bays[a.bay].feeder = some a.feeder

theorem draws_eq_feeds {snap : Snapshot} {a : Share} (of : OfSnapshot snap a) (β : Budget) : draws β a = feeds snap β a.bay := by
  cases β with
  | none => rfl
  | some k => simp only [draws, feeds, of.2, Option.some.injEq]

theorem ofSnapshot_of_bare {snap : Snapshot} {a b : Share} (same : bare b = bare a) (of : OfSnapshot snap b) : OfSnapshot snap a := by
  have stripped : OfSnapshot snap (bare a) := same ▸ of
  exact stripped

theorem ofSnapshot_distribute {snap : Snapshot} {shares : List Share} (of : ∀ a ∈ shares, OfSnapshot snap a) :
    ∀ a ∈ distribute snap shares, OfSnapshot snap a := by
  intro a mem
  have ranked : bare a ∈ (rank shares).map bare := bare_distribute snap shares ▸ List.mem_map_of_mem mem
  obtain ⟨b, memRank, same⟩ := List.mem_map.1 ranked
  exact ofSnapshot_of_bare same (of b ((rank_perm shares).mem_iff.1 memRank))

/-- Over the bays of a budget, the steps given above the holdings are within what the shares draw: each bay takes them from
one share. -/
theorem budgetSum_stepsFor_le {snap : Snapshot} {shares : List Share} (of : ∀ a ∈ shares, OfSnapshot snap a) (β : Budget) :
    budgetSum snap β (fun b => stepsFor shares b - heldCharge snap.bays[b]) ≤ drawn β shares := by
  induction shares with
  | nil => simp [budgetSum, stepsFor]
  | cons a rest ih =>
    obtain ⟨ofA, ofRest⟩ := List.forall_mem_cons.1 of
    have first (b : Fin 32) :
        (if feeds snap β b then stepsFor (a :: rest) b - heldCharge snap.bays[b] else 0)
          ≤ (if b = a.bay then if draws β a then extra a else 0 else 0)
            + if feeds snap β b then stepsFor rest b - heldCharge snap.bays[b] else 0 := by
      by_cases same : b = a.bay
      · subst same
        simp only [stepsFor, List.find?_cons, beq_self_eq_true, if_true, draws_eq_feeds ofA, extra, ofA.1]
        split <;> omega
      · simp [stepsFor, same, Ne.symm same]
    calc budgetSum snap β (fun b => stepsFor (a :: rest) b - heldCharge snap.bays[b])
      _ ≤ (if draws β a then extra a else 0) + budgetSum snap β (fun b => stepsFor rest b - heldCharge snap.bays[b]) := by
        refine (Finset.sum_le_sum fun b _ => first b).trans (le_of_eq ?_)
        rw [Finset.sum_add_distrib, Finset.sum_ite_eq' Finset.univ a.bay, if_pos (Finset.mem_univ _)]
        rfl
      _ ≤ (if draws β a then extra a else 0) + drawn β rest := Nat.add_le_add_left (ih ofRest) _
      _ = drawn β (a :: rest) := by
        unfold drawn
        by_cases pays : draws β a = true <;> simp [pays]

theorem budgetSum_max (snap : Snapshot) (β : Budget) (held given : Fin 32 → Nat) :
    budgetSum snap β (fun b => max (held b) (given b)) = budgetSum snap β held + budgetSum snap β fun b => given b - held b := by
  unfold budgetSum
  rw [← Finset.sum_add_distrib]
  refine Finset.sum_congr rfl fun b _ => ?_
  dsimp only
  split <;> omega

/-- The charges of a budget after a distribution: never above the charges at the snapshot and the headroom. -/
theorem charged_le {snap : Snapshot} {shares : List Share} (of : ∀ a ∈ shares, OfSnapshot snap a) (β : Budget) :
    budgetSum snap β (fun b => max (heldCharge snap.bays[b]) (stepsFor (distribute snap shares) b))
      ≤ max (budgetSum snap β fun b => heldCharge snap.bays[b]) (headroom snap β) := by
  have spent := (budgetSum_stepsFor_le (ofSnapshot_distribute of) β).trans (drawn_distribute_le snap shares β)
  rw [left_openingPurse] at spent
  rw [budgetSum_max]
  omega

end Sys2Proof.Allocation
end

section
/-! The results of a distribution: each as its turn in the two rounds leaves it (R88 to R91). -/

namespace Sys2Proof.Allocation

open Sys2Proof.Machine Sys2Proof.Safety Sys2Proof.Demand

/-! ### Which heads take part, with what share (R87) -/

/-- The share with which a head enters the distribution; its feeder is meant only for a bay that has one. -/
def shareOf (snap : Snapshot) (h : SnapHead) : Share :=
  { bay := h.bay, priority := h.priority, slack := (evalHead snap h).slack, demand := (evalHead snap h).demand
    held := heldCharge snap.bays[h.bay], feeder := snap.bays[h.bay].feeder.getD 0, new := 0 }

/-- The result takes part in the distribution. -/
def takesPart (r : PassResult) : Bool := r.newState.eligible && decide (5 ≤ r.eval.demand) && !r.reversing

theorem takesPart_iff (r : PassResult) : takesPart r = true ↔ TakesPart r := by
  simp [takesPart, TakesPart, eligible_iff, and_assoc]

/-- A head in a bay without a feeder is UNMAPPED at the latest, so it is not eligible (R79). -/
theorem feeder_of_eligible {snap : Snapshot} {h : SnapHead} {e : Eval} (eligible : (newState snap h e).eligible = true) :
    ∃ k, snap.bays[h.bay].feeder = some k := by
  by_contra unmapped
  have none : snap.bays[h.bay].feeder = none := by simpa [Option.eq_none_iff_forall_ne_some] using unmapped
  revert eligible
  unfold newState
  repeat' split
  · nofun
  · nofun
  · nofun
  · nofun
  next t _ =>
  unfold checksWithTele
  dsimp only
  rw [none, if_pos Option.isNone_none]
  repeat' split
  · nofun
  · nofun
  · nofun
  · nofun

/-- The results of a pass are those of its heads. -/
def resultOf (snap : Snapshot) (h : SnapHead) : PassResult := (judgeHead snap h).result (passShares snap)

theorem passResults_eq (snap : Snapshot) : passResults snap = snap.heads.map (resultOf snap) := by
  simp only [passResults, List.map_map]
  rfl

section
variable (snap : Snapshot) (h : SnapHead)

theorem resultOf_head : (resultOf snap h).head = h := (result_judged (passShares snap) (judgeHead snap h)).1

theorem resultOf_eval : (resultOf snap h).eval = (judgeHead snap h).eval := (result_judged (passShares snap) (judgeHead snap h)).2.1

theorem resultOf_newState : (resultOf snap h).newState = (judgeHead snap h).newState :=
  (result_judged (passShares snap) (judgeHead snap h)).2.2.1

theorem resultOf_reversing : (resultOf snap h).reversing = (judgeHead snap h).reversing :=
  (result_judged (passShares snap) (judgeHead snap h)).2.2.2

/-- A head shares in the distribution exactly when its result takes part. -/
theorem judgeHead_share :
    (judgeHead snap h).share snap = if takesPart (resultOf snap h) then some (shareOf snap h) else none := by
  unfold Judged.share takesPart
  rw [resultOf_eval, resultOf_newState, resultOf_reversing]
  split
  · next takes =>
    simp only [Bool.and_eq_true] at takes
    obtain ⟨k, feeder⟩ := feeder_of_eligible takes.1.1
    have feeder' : snap.bays[(judgeHead snap h).head.bay].feeder = some k := feeder
    simp only [feeder', Option.map_some, shareOf, feeder, Option.getD_some]
    rfl
  · rfl

end

/-- The shares that enter a distribution are those of the results that take part. -/
theorem entering_shares (snap : Snapshot) :
    (snap.heads.map (judgeHead snap)).filterMap (Judged.share snap)
      = ((passResults snap).filter takesPart).map fun r => shareOf snap r.head := by
  rw [passResults_eq]
  induction snap.heads with
  | nil => rfl
  | cons h rest ih =>
    simp only [List.map_cons, List.filterMap_cons, List.filter_cons, judgeHead_share, ih]
    cases takesPart (resultOf snap h) <;> simp [resultOf_head]

theorem mem_passResults_iff {snap : Snapshot} {r : PassResult} : r ∈ passResults snap ↔ r.head ∈ snap.heads ∧ r = resultOf snap r.head := by
  rw [passResults_eq, List.mem_map]
  constructor
  · rintro ⟨h, listed, rfl⟩
    rw [resultOf_head]
    exact ⟨listed, rfl⟩
  · rintro ⟨listed, same⟩
    exact ⟨r.head, listed, same.symm⟩

theorem ofSnapshot_shareOf {snap : Snapshot} {r : PassResult} (mem : r ∈ passResults snap) (takes : takesPart r = true) :
    OfSnapshot snap (shareOf snap r.head) := by
  have same := (mem_passResults_iff.1 mem).2
  simp only [takesPart, Bool.and_eq_true] at takes
  rw [same, resultOf_newState] at takes
  obtain ⟨k, feeder⟩ := feeder_of_eligible takes.1.1
  exact ⟨rfl, by simp only [shareOf, feeder, Option.getD_some]⟩

theorem ofSnapshot_entering (snap : Snapshot) :
    ∀ a ∈ (snap.heads.map (judgeHead snap)).filterMap (Judged.share snap), OfSnapshot snap a := by
  rw [entering_shares]
  intro a mem
  obtain ⟨r, takes, rfl⟩ := List.mem_map.1 mem
  exact ofSnapshot_shareOf (List.mem_filter.1 takes).1 (List.mem_filter.1 takes).2

/-! ### What the rounds make of a share -/

/-- Round 1 gives 5 steps or none, and 5 to a bay that holds them. -/
theorem mem_firstShares {snap : Snapshot} {shares : List Share} :
    ∀ a ∈ firstShares snap shares, (a.new = 0 ∧ a.held < 5) ∨ a.new = 5 := by
  refine of_mem_runRound fun q a _ => ?_
  rw [roundOne_new]
  dsimp only
  split
  · exact .inr rfl
  · next unfit =>
    refine .inl ⟨rfl, ?_⟩
    by_contra holds
    exact unfit (by omega)

/-- A share after both rounds: nothing, for a bay that holds less than 5 steps; or a grant of R91 that keeps what is asked for
out of the holding. -/
def Served (a : Share) : Prop :=
  (a.new = 0 ∧ a.held < 5) ∨ (5 ≤ a.new ∧ (5 ≤ a.demand → a.new ≤ a.demand) ∧ min a.demand a.held ≤ a.new)

theorem served_distribute (snap : Snapshot) (shares : List Share) : ∀ a ∈ distribute snap shares, Served a := by
  rw [distribute_eq]
  refine of_mem_runRound fun q a mem => ?_
  have first := mem_firstShares a mem
  rw [roundTwo_new]
  unfold Served
  dsimp only
  split <;> omega

/-- What a list of shares gives a bay is what one of its shares gives, or nothing. -/
theorem stepsFor_cases (shares : List Share) (b : Fin 32) :
    ((shares.find? fun a => a.bay == b) = none ∧ stepsFor shares b = 0)
      ∨ ∃ a ∈ shares, (shares.find? fun a => a.bay == b) = some a ∧ a.bay = b ∧ stepsFor shares b = a.new := by
  unfold stepsFor
  cases found : shares.find? fun a => a.bay == b with
  | none => exact .inl ⟨rfl, rfl⟩
  | some a => exact .inr ⟨a, List.mem_of_find?_eq_some found, rfl, by simpa using List.find?_some found, rfl⟩

theorem stepsFor_passShares (snap : Snapshot) (b : Fin 32) : stepsFor (passShares snap) b = 0 ∨ 5 ≤ stepsFor (passShares snap) b := by
  rcases stepsFor_cases (passShares snap) b with ⟨-, none⟩ | ⟨a, mem, -, -, steps⟩
  · exact .inl none
  · have served := served_distribute _ _ a mem
    unfold Served at served
    omega

/-- The grant of a result is what the distribution gives its bay (R91). -/
theorem resultOf_steps (snap : Snapshot) (h : SnapHead) : (resultOf snap h).steps = stepsFor (passShares snap) h.bay := by
  have range := stepsFor_passShares snap h.bay
  unfold resultOf Judged.result stepsFor at *
  rw [show (judgeHead snap h).head.bay = h.bay from rfl]
  cases found : (passShares snap).find? fun a => a.bay == h.bay with
  | none => rfl
  | some a =>
    simp only [found] at range ⊢
    split
    · rfl
    · dsimp only; omega

theorem steps_of_mem {snap : Snapshot} {r : PassResult} (mem : r ∈ passResults snap) : r.steps = stepsFor (passShares snap) r.head.bay := by
  rw [(mem_passResults_iff.1 mem).2, resultOf_steps, resultOf_head]

theorem grantedSteps_le (snap : Snapshot) (b : Fin 32) : grantedSteps (passResults snap) b ≤ stepsFor (passShares snap) b := by
  unfold grantedSteps
  split
  · next r found =>
    obtain rfl : r.head.bay = b := by simpa using List.find?_some found
    exact (steps_of_mem (List.mem_of_find?_eq_some found)).le
  · exact Nat.zero_le _

/-- The charges of a budget after a pass: never above the charges at the snapshot and the headroom. -/
theorem charged_pass_le (snap : Snapshot) (β : Budget) :
    budgetSum snap β (fun b => max (heldCharge snap.bays[b]) (stepsFor (passShares snap) b))
      ≤ max (budgetSum snap β fun b => heldCharge snap.bays[b]) (headroom snap β) :=
  charged_le (ofSnapshot_entering snap) β

theorem charged_results_le (snap : Snapshot) (β : Budget) :
    budgetSum snap β (fun b => max (heldCharge snap.bays[b]) (grantedSteps (passResults snap) b))
      ≤ max (budgetSum snap β fun b => heldCharge snap.bays[b]) (headroom snap β) := by
  refine le_trans (Finset.sum_le_sum fun b _ => ?_) (charged_pass_le snap β)
  have granted := grantedSteps_le snap b
  split
  · exact max_le_max_left _ granted
  · exact le_rfl

end Sys2Proof.Allocation
end

section
/-! The two rounds of a pass in rank order (R87 to R91, R110), read off the shares that they leave. -/

namespace Sys2Proof.Allocation

open Sys2Proof.Machine Sys2Proof.Safety Sys2Proof.Demand

/-! ### Shares by bay -/

/-- The share with the steps that a function gives its bay. -/
def given (steps : Fin 32 → Nat) (a : Share) : Share := { a with new := steps a.bay }

/-- With one share to a bay, the steps of a share are those its bay is given. -/
theorem stepsFor_of_mem {l : List Share} (distinct : (l.map Share.bay).Nodup) {a : Share} (mem : a ∈ l) : stepsFor l a.bay = a.new := by
  rcases stepsFor_cases l a.bay with ⟨absent, -⟩ | ⟨b, other, -, bay, steps⟩
  · exact absurd (List.find?_eq_none.1 absent a mem) (by simp)
  · rw [steps, List.inj_on_of_nodup_map distinct other mem bay]

/-- Shares that differ from those of a list in their steps alone are that list with the steps its bays are given. -/
theorem eq_map_given {l m : List Share} (same : m.map bare = l.map bare) (distinct : (l.map Share.bay).Nodup) :
    m = l.map (given (stepsFor m)) := by
  have bays : m.map Share.bay = l.map Share.bay := by
    have stripped := congrArg (List.map Share.bay) same
    rw [List.map_map, List.map_map] at stripped
    exact stripped
  calc m
    _ = m.map (given (stepsFor m)) := by
      conv_lhs => rw [← List.map_id m]
      refine List.map_congr_left fun a mem => ?_
      rw [given, stepsFor_of_mem (bays ▸ distinct) mem]
      rfl
    _ = (m.map bare).map (given (stepsFor m)) := by rw [List.map_map]; rfl
    _ = l.map (given (stepsFor m)) := by rw [same, List.map_map]; rfl

/-- The turn of one order in a round, when the shares that the round leaves are known. -/
theorem runRound_split {f : Purse → Share → Purse × Share} {p : Purse} {before after before' after' : List Share} {a a' : Share}
    (length : before'.length = before.length) (out : (runRound f p (before ++ a :: after)).2 = before' ++ a' :: after') :
    (runRound f p before).2 = before' ∧ (f (runRound f p before).1 a).2 = a' := by
  have sameLength : (runRound f p before).2.length = before'.length := by
    have counted := congrArg List.length (map_runRound (f := f) (g := fun _ => ()) (fun _ _ => rfl) p before)
    rw [List.length_map, List.length_map] at counted
    exact counted.trans length.symm
  rw [runRound_append] at out
  obtain ⟨prefixes, rests⟩ := List.append_inj out sameLength
  exact ⟨prefixes, (List.cons.inj rests).1⟩

/-! ### The ranked results (R87) -/

section
variable {snap : Snapshot}

/-- With ascending bays a pass has one result for each bay. -/
theorem bays_distinct (ascend : snap.heads.Pairwise fun x y => x.bay < y.bay) :
    ((passResults snap).map fun r => r.head.bay).Nodup := by
  rw [passResults_eq, List.map_map]
  refine List.pairwise_map.2 (ascend.imp fun before => ?_)
  simp only [Function.comp_apply, resultOf_head]
  exact ne_of_lt before

theorem eq_of_bay (ascend : snap.heads.Pairwise fun x y => x.bay < y.bay) {r q : PassResult} (memR : r ∈ passResults snap)
    (memQ : q ∈ passResults snap) (same : r.head.bay = q.head.bay) : r = q :=
  List.inj_on_of_nodup_map (bays_distinct ascend) memR memQ same

/-- The ranked shares are those of the results that take part, in some order. -/
theorem exists_ranked (snap : Snapshot) :
    ∃ ranked : List PassResult, ranked.Perm ((passResults snap).filter takesPart)
      ∧ rank ((snap.heads.map (judgeHead snap)).filterMap (Judged.share snap)) = ranked.map fun r => shareOf snap r.head := by
  have perm := rank_perm ((snap.heads.map (judgeHead snap)).filterMap (Judged.share snap))
  rw [entering_shares] at perm ⊢
  have exchange := congrFun₂ (List.eq_map_comp_perm fun r => shareOf snap r.head)
    (rank (((passResults snap).filter takesPart).map fun r => shareOf snap r.head)) ((passResults snap).filter takesPart)
  obtain ⟨ranked, same, permuted⟩ := exchange.mpr perm
  exact ⟨ranked, permuted, same⟩

/-- The results that take part, as the two rounds serve them. -/
structure Ranked (snap : Snapshot) (ranked : List PassResult) : Prop where
  perm : ranked.Perm ((passResults snap).filter takesPart)
  shares : rank ((snap.heads.map (judgeHead snap)).filterMap (Judged.share snap)) = ranked.map fun r => shareOf snap r.head
  ascend : snap.heads.Pairwise fun x y => x.bay < y.bay

variable {ranked : List PassResult}

theorem Ranked.mem_iff (h : Ranked snap ranked) (r : PassResult) : r ∈ ranked ↔ r ∈ passResults snap ∧ TakesPart r := by
  rw [h.perm.mem_iff, List.mem_filter, takesPart_iff]

theorem Ranked.distinct (h : Ranked snap ranked) : (ranked.map fun r => r.head.bay).Nodup :=
  (h.perm.map _).nodup_iff.2 ((bays_distinct h.ascend).sublist (List.filter_sublist.map _))

theorem Ranked.ofSnapshot (h : Ranked snap ranked) {r : PassResult} (mem : r ∈ ranked) : OfSnapshot snap (shareOf snap r.head) := by
  obtain ⟨listed, takes⟩ := (h.mem_iff r).1 mem
  exact ofSnapshot_shareOf listed ((takesPart_iff r).2 takes)

theorem eval_of_mem {r : PassResult} (mem : r ∈ passResults snap) : r.eval = evalHead snap r.head := by
  conv_lhs => rw [(mem_passResults_iff.1 mem).2, resultOf_eval]
  rfl

/-- The ranked results stand in the order of R87, in which no two are level, being of different bays. -/
theorem Ranked.sorted (h : Ranked snap ranked) : ranked.Pairwise RanksBefore := by
  have sorted := rank_sorted ((snap.heads.map (judgeHead snap)).filterMap (Judged.share snap))
  rw [h.shares] at sorted
  refine ((List.pairwise_map.1 sorted).and (List.pairwise_map.1 h.distinct)).imp_of_mem ?_
  rintro r q memR memQ ⟨upTo, apart⟩
  rw [upTo_iff] at upTo
  unfold RanksBefore
  rw [eval_of_mem ((h.mem_iff r).1 memR).1, eval_of_mem ((h.mem_iff q).1 memQ).1]
  simp only [shareOf] at upTo
  exact upTo.imp_right (And.imp_right (Or.imp_right (And.imp_right fun below => lt_of_le_of_ne below apart)))

/-! ### The steps after each round (R89, R90) -/

/-- The steps that round 1 gives each bay. -/
def firstFor (snap : Snapshot) : Fin 32 → Nat :=
  stepsFor (firstShares snap ((snap.heads.map (judgeHead snap)).filterMap (Judged.share snap)))

theorem firstFor_eq (snap : Snapshot) (b : Fin 32) : firstFor snap b = 0 ∨ firstFor snap b = 5 := by
  unfold firstFor
  rcases stepsFor_cases (firstShares snap ((snap.heads.map (judgeHead snap)).filterMap (Judged.share snap))) b with
    ⟨-, none⟩ | ⟨a, mem, -, -, steps⟩
  · exact .inl none
  · rw [steps]
    exact (mem_firstShares a mem).imp_left And.left

/-- The shares of some ranked results with the steps given to their bays. -/
def sharesGiven (snap : Snapshot) (steps : Fin 32 → Nat) (l : List PassResult) : List Share :=
  l.map fun r => given steps (shareOf snap r.head)

theorem sharesGiven_split (steps : Fin 32 → Nat) (before : List PassResult) (r : PassResult) (after : List PassResult) :
    sharesGiven snap steps (before ++ r :: after)
      = sharesGiven snap steps before ++ given steps (shareOf snap r.head) :: sharesGiven snap steps after := by
  simp [sharesGiven]

theorem Ranked.eq_sharesGiven (h : Ranked snap ranked) {m : List Share}
    (same : m.map bare = (rank ((snap.heads.map (judgeHead snap)).filterMap (Judged.share snap))).map bare) :
    m = sharesGiven snap (stepsFor m) ranked := by
  have distinct : ((ranked.map fun r => shareOf snap r.head).map Share.bay).Nodup := by
    rw [List.map_map]
    exact h.distinct
  rw [h.shares] at same
  refine (eq_map_given same distinct).trans ?_
  rw [List.map_map]
  rfl

/-- What ranked shares draw on a budget, bay by bay. -/
theorem Ranked.drawn_given (h : Ranked snap ranked) {l : List PassResult} (listed : ∀ q ∈ l, q ∈ ranked) (β : Budget)
    (steps : Fin 32 → Nat) :
    drawn β (sharesGiven snap steps l)
      = ((l.filter fun q => feeds snap β q.head.bay).map fun q => steps q.head.bay - heldCharge snap.bays[q.head.bay]).sum := by
  unfold drawn sharesGiven
  rw [List.filter_map, List.map_map]
  have pays : l.filter (draws β ∘ fun q => given steps (shareOf snap q.head)) = l.filter fun q => feeds snap β q.head.bay :=
    List.filter_congr fun q mem => draws_eq_feeds (h.ofSnapshot (listed q mem)) β
  rw [pays]
  rfl

/-- The turn of one ranked order in a round, between steps that are known before and after the round. -/
theorem turn_of_round {f : Purse → Share → Purse × Share} {p : Purse} {steps steps' : Fin 32 → Nat} {before after : List PassResult}
    {r : PassResult}
    (out : (runRound f p (sharesGiven snap steps (before ++ r :: after))).2 = sharesGiven snap steps' (before ++ r :: after)) :
    (runRound f p (sharesGiven snap steps before)).2 = sharesGiven snap steps' before
      ∧ (f (runRound f p (sharesGiven snap steps before)).1 (given steps (shareOf snap r.head))).2
          = given steps' (shareOf snap r.head) := by
  rw [sharesGiven_split, sharesGiven_split] at out
  exact runRound_split (by simp [sharesGiven]) out

/-- The purse after round 1. -/
def purseAfterOne (snap : Snapshot) (ranked : List PassResult) : Purse :=
  (runRound roundOne (openingPurse snap) (sharesGiven snap (fun _ => 0) ranked)).1

theorem Ranked.round_one (h : Ranked snap ranked) :
    (runRound roundOne (openingPurse snap) (sharesGiven snap (fun _ => 0) ranked)).2 = sharesGiven snap (firstFor snap) ranked := by
  have out := h.eq_sharesGiven (bare_firstShares snap _)
  unfold firstShares at out
  rw [h.shares] at out
  unfold firstFor firstShares
  rw [h.shares]
  exact out

theorem Ranked.round_two (h : Ranked snap ranked) :
    (runRound roundTwo (purseAfterOne snap ranked) (sharesGiven snap (firstFor snap) ranked)).2
      = sharesGiven snap (stepsFor (passShares snap)) ranked := by
  have out := h.eq_sharesGiven (bare_distribute snap _)
  rw [distribute_eq] at out
  unfold firstShares firstPurse at out
  rw [h.shares] at out
  rw [← h.round_one]
  unfold passShares purseAfterOne
  rw [distribute_eq]
  unfold firstShares firstPurse
  rw [h.shares]
  exact out

/-! ### The budgets at the turn of an order -/

/-- What an order takes in round 1 above the holding of its bay. -/
def raisedBy (snap : Snapshot) (q : PassResult) : Nat :=
  if firstFor snap q.head.bay = 5 then 5 - heldCharge snap.bays[q.head.bay] else 0

/-- What an order gains in round 2 above the holding of its bay. -/
def grownBy (snap : Snapshot) (q : PassResult) : Nat :=
  max (heldCharge snap.bays[q.head.bay]) q.steps - max (heldCharge snap.bays[q.head.bay]) (firstFor snap q.head.bay)

/-- The sum over the results whose bays are charged to a budget. -/
def onBudget (snap : Snapshot) (β : Budget) (cost : PassResult → Nat) (l : List PassResult) : Nat :=
  ((l.filter fun q => feeds snap β q.head.bay).map cost).sum

theorem raisedBy_eq (snap : Snapshot) (q : PassResult) :
    raisedBy snap q = firstFor snap q.head.bay - heldCharge snap.bays[q.head.bay] := by
  have first := firstFor_eq snap q.head.bay
  unfold raisedBy
  split <;> omega

theorem onBudget_none (cost : PassResult → Nat) (l : List PassResult) : onBudget snap none cost l = (l.map cost).sum := by
  simp [onBudget, feeds]

theorem Ranked.drawn_first (h : Ranked snap ranked) {l : List PassResult} (listed : ∀ q ∈ l, q ∈ ranked) (β : Budget) :
    drawn β (sharesGiven snap (firstFor snap) l) = onBudget snap β (raisedBy snap) l := by
  rw [h.drawn_given listed]
  exact congrArg List.sum (List.map_congr_left fun q _ => (raisedBy_eq snap q).symm)

theorem le_roundTwo (p : Purse) (a : Share) : a.new ≤ (roundTwo p a).2.new := by
  rw [roundTwo_new]
  dsimp only
  split
  · exact le_rfl
  · exact Nat.le_add_right _ _

theorem steps_of_turn {a : Share} {steps : Fin 32 → Nat} {h : SnapHead} (turn : a = given steps (shareOf snap h)) :
    a.new = steps h.bay := congrArg Share.new turn

/-- Round 2 leaves no order fewer steps than round 1. -/
theorem Ranked.first_le (h : Ranked snap ranked) {q : PassResult} (mem : q ∈ ranked) :
    firstFor snap q.head.bay ≤ stepsFor (passShares snap) q.head.bay := by
  obtain ⟨before, after, rfl⟩ := List.append_of_mem mem
  rw [← steps_of_turn (turn_of_round h.round_two).2]
  exact le_roundTwo _ (given (firstFor snap) (shareOf snap q.head))

theorem Ranked.drawn_steps (h : Ranked snap ranked) {l : List PassResult} (listed : ∀ q ∈ l, q ∈ ranked) (β : Budget) :
    drawn β (sharesGiven snap (stepsFor (passShares snap)) l)
      = onBudget snap β (raisedBy snap) l + onBudget snap β (grownBy snap) l := by
  rw [h.drawn_given listed]
  unfold onBudget
  rw [← List.sum_map_add]
  refine congrArg List.sum (List.map_congr_left fun q mem => ?_)
  have mem' := listed q (List.mem_of_mem_filter mem)
  have risen := h.first_le mem'
  rw [raisedBy_eq, grownBy, steps_of_mem ((h.mem_iff q).1 mem').1]
  omega

section
variable {before after : List PassResult} {r : PassResult}

/-- The first grant of a ranked order, out of what those before it leave of each budget (R89). -/
theorem Ranked.turn_one (h : Ranked snap (before ++ r :: after)) :
    ∃ p, (∀ β, left β p = left β (openingPurse snap) - onBudget snap β (raisedBy snap) before)
      ∧ firstFor snap r.head.bay = (roundOne p (shareOf snap r.head)).2.new := by
  obtain ⟨shares, turn⟩ := turn_of_round h.round_one
  refine ⟨_, fun β => ?_, (steps_of_turn turn).symm⟩
  have paid := roundOne_drawn β (openingPurse snap) (sharesGiven snap (fun _ => 0) before)
  rw [shares, h.drawn_first fun q mem => List.mem_append_left _ mem] at paid
  omega

/-- The raise of a ranked order, out of what round 1 and those before it leave of each budget (R90). -/
theorem Ranked.turn_two (h : Ranked snap (before ++ r :: after)) :
    ∃ p, (∀ β, left β p = left β (openingPurse snap) - onBudget snap β (raisedBy snap) (before ++ r :: after)
            - onBudget snap β (grownBy snap) before)
      ∧ r.steps = (roundTwo p (given (firstFor snap) (shareOf snap r.head))).2.new := by
  have listed : ∀ q ∈ before, q ∈ before ++ r :: after := fun q mem => List.mem_append_left _ mem
  have memR : r ∈ before ++ r :: after := List.mem_append_right _ List.mem_cons_self
  obtain ⟨shares, turn⟩ := turn_of_round h.round_two
  refine ⟨_, fun β => ?_, (steps_of_mem ((h.mem_iff r).1 memR).1).trans (steps_of_turn turn).symm⟩
  have paidOne := roundOne_drawn β (openingPurse snap) (sharesGiven snap (fun _ => 0) (before ++ r :: after))
  have paidTwo := roundTwo_drawn β (purseAfterOne snap (before ++ r :: after)) (sharesGiven snap (firstFor snap) before)
  rw [h.round_one, h.drawn_first fun _ mem => mem] at paidOne
  rw [shares, h.drawn_steps listed, h.drawn_first listed] at paidTwo
  unfold purseAfterOne at paidTwo ⊢
  omega

end

theorem roundOne_steps (p : Purse) (a : Share) :
    (roundOne p a).2.new = if 5 - a.held ≤ left none p ∧ 5 - a.held ≤ left (some a.feeder) p then 5 else 0 := by
  rw [roundOne_new]
  rfl

theorem roundTwo_steps {p : Purse} {a : Share} (first : a.new = 0 ∨ a.new = 5) :
    (roundTwo p a).2.new =
      if a.new = 5 then
        5 + min (a.demand - 5) (min (left none p + (a.held - 5)) (left (some a.feeder) p + (a.held - 5)))
      else 0 := by
  rw [roundTwo_new]
  rcases first with none | five
  · simp [none]
  · simp only [five, lt_self_iff_false, if_true, if_false]
    rfl

/-- The two rounds over the ranked results (R88 to R90). -/
theorem Ranked.twoRounds (h : Ranked snap ranked) : TwoRounds snap ranked (firstFor snap) := by
  rintro before r after rfl
  have mem : r ∈ before ++ r :: after := List.mem_append_right _ List.mem_cons_self
  obtain ⟨-, feeder⟩ := h.ofSnapshot mem
  refine ⟨(shareOf snap r.head).feeder, feeder, ?_, ?_⟩
  · obtain ⟨p, room, first⟩ := h.turn_one
    rw [roundOne_steps, room, room, left_openingPurse, left_openingPurse, budgetSum_site, budgetSum_feeder, onBudget_none] at first
    exact first
  · obtain ⟨p, room, steps⟩ := h.turn_two
    rw [roundTwo_steps (firstFor_eq snap r.head.bay), room, room, left_openingPurse, left_openingPurse, budgetSum_site,
      budgetSum_feeder, onBudget_none, onBudget_none] at steps
    rw [eval_of_mem ((h.mem_iff r).1 mem).1]
    exact steps

end

end Sys2Proof.Allocation
end

section
/-! The grants of a pass (R91), and its distribution as a whole. -/

namespace Sys2Proof.Allocation

open Sys2Proof.Machine Sys2Proof.Safety Sys2Proof.Demand

/-! ### The evaluation behind a grant (R36, R39, R45) -/

/-- No order that demands energy is in its band, and one kept there wants the mode that its loss calls for. -/
theorem wanted_of_demand {x : EvalInput} {t : Telemetry} {e : Eval} (form : Form x t e) (demands : e.demand ≠ 0) :
    e.wanted = .heat ∨ e.wanted = .cool := by
  cases form with
  | maintenance =>
    by_cases idle : lossPower x.u x.target t.outdoor (maintenanceMode x.target t.outdoor) = 0
    · exact absurd (evalMaintenance_of_idle idle).2.1 demands
    · rw [(evalMaintenance_of_loss rfl idle).1]
      unfold maintenanceMode at idle ⊢
      split_ifs at idle ⊢
      · exact .inl rfl
      · exact .inr rfl
      · exact absurd rfl idle
  | inBand => exact absurd rfl demands
  | conditioning mode _ outside => exact outside.imp And.left And.left

/-- An evaluation with a demand wants HEAT or COOL, within the counted capability. -/
theorem demanding_evaluate {x : EvalInput} (demands : 5 ≤ (evaluate x).demand) :
    ((evaluate x).wanted = .heat ∨ (evaluate x).wanted = .cool)
      ∧ (evaluate x).demand ≤ (evaluate x).mmax ∧ (evaluate x).mmax ≤ 120 := by
  cases tele : x.tele with
  | none =>
    have blind : evaluate x = evalBlind x := by simp [evaluate, tele]
    rw [blind] at demands
    cases demands
  | some t =>
    have form := form_evaluate tele
    have wanted : (evaluate x).wanted = .heat ∨ (evaluate x).wanted = .cool := wanted_of_demand form (by omega)
    have range := form.demand_range
    obtain ⟨heat, cool⟩ := form.mmax_counted
    have heatCap := counted_range t.heatCap
    have coolCap := counted_range t.coolCap
    refine ⟨wanted, by omega, ?_⟩
    rcases wanted with wanted | wanted
    · have := heat wanted; omega
    · have := cool wanted; omega

/-! ### A result and its share (R89, R91) -/

section
variable {snap : Snapshot} {ranked : List PassResult} {r : PassResult}

theorem Ranked.bare_passShares (h : Ranked snap ranked) : (passShares snap).map bare = ranked.map fun q => shareOf snap q.head := by
  have same := bare_distribute snap ((snap.heads.map (judgeHead snap)).filterMap (Judged.share snap))
  rw [h.shares, List.map_map] at same
  exact same

/-- A distributed share of a result's bay is that result's own. -/
theorem Ranked.own_share (h : Ranked snap ranked) (mem : r ∈ passResults snap) {a : Share} (shared : a ∈ passShares snap)
    (bay : a.bay = r.head.bay) : bare a = shareOf snap r.head ∧ TakesPart r := by
  have stripped : bare a ∈ ranked.map fun q => shareOf snap q.head := h.bare_passShares ▸ List.mem_map_of_mem shared
  obtain ⟨q, listed, same⟩ := List.mem_map.1 stripped
  obtain ⟨memQ, takes⟩ := (h.mem_iff q).1 listed
  have bays : q.head.bay = a.bay := congrArg Share.bay same
  obtain rfl := eq_of_bay h.ascend memQ mem (bays.trans bay)
  exact ⟨same.symm, takes⟩

/-- A result that takes part has a distributed share. -/
theorem Ranked.share_of_takesPart (h : Ranked snap ranked) (mem : r ∈ passResults snap) (takes : TakesPart r) :
    ∃ a ∈ passShares snap, a.bay = r.head.bay := by
  have stripped : shareOf snap r.head ∈ (passShares snap).map bare :=
    h.bare_passShares ▸ List.mem_map_of_mem ((h.mem_iff r).2 ⟨mem, takes⟩)
  obtain ⟨a, shared, same⟩ := List.mem_map.1 stripped
  exact ⟨a, shared, congrArg Share.bay same⟩

/-- The grant of a result: out of its share where that reaches 5 steps, STARVED where it does not, and OFF/0 without one. -/
theorem result_cases (mem : r ∈ passResults snap) :
    ((∀ a ∈ passShares snap, a.bay ≠ r.head.bay) ∧ r.starved = false ∧ r.mode = .off ∧ r.steps = 0)
      ∨ ∃ a ∈ passShares snap, a.bay = r.head.bay
        ∧ ((5 ≤ a.new ∧ r.starved = false ∧ r.mode = r.eval.wanted.toMode ∧ r.steps = a.new)
          ∨ (a.new < 5 ∧ r.starved = true ∧ r.mode = .off ∧ r.steps = 0)) := by
  obtain ⟨h, -, rfl⟩ := mem_passResults.1 mem
  rw [(result_judged (passShares snap) (judgeHead snap h)).1]
  unfold Judged.result
  cases found : (passShares snap).find? fun a => a.bay == (judgeHead snap h).head.bay with
  | none => exact .inl ⟨fun a shared => by simpa using List.find?_eq_none.1 found a shared, rfl, rfl, rfl⟩
  | some a =>
    refine .inr ⟨a, List.mem_of_find?_eq_some found, by simpa using List.find?_some found, ?_⟩
    dsimp only
    split
    · next enough => exact .inl ⟨enough, rfl, rfl, rfl⟩
    · next few => exact .inr ⟨by omega, rfl, rfl, rfl⟩

/-- What the distribution makes of a result that takes part: STARVED for a bay that holds less than 5 steps, or a grant within
the demand that keeps what is asked for out of the holding. -/
theorem Ranked.granted (h : Ranked snap ranked) (mem : r ∈ passResults snap) (takes : TakesPart r) :
    (r.starved = true ∧ r.mode = .off ∧ r.steps = 0 ∧ heldCharge snap.bays[r.head.bay] < 5)
      ∨ (r.starved = false ∧ r.mode = r.eval.wanted.toMode ∧ 5 ≤ r.steps ∧ r.steps ≤ r.eval.demand
          ∧ min r.eval.demand (heldCharge snap.bays[r.head.bay]) ≤ r.steps) := by
  rcases result_cases mem with ⟨absent, -⟩ | ⟨a, shared, bay, cases⟩
  · obtain ⟨a, shared, bay⟩ := h.share_of_takesPart mem takes
    exact absurd bay (absent a shared)
  · have served := served_distribute _ _ a shared
    have own := (h.own_share mem shared bay).1
    have demand : a.demand = r.eval.demand := (congrArg Share.demand own).trans (eval_of_mem mem ▸ rfl)
    have held : a.held = heldCharge snap.bays[r.head.bay] := congrArg Share.held own
    obtain ⟨-, demands, -⟩ := takes
    unfold Served at served
    rw [demand, held] at served
    rcases cases with ⟨enough, starved, mode, steps⟩ | ⟨few, starved, mode, steps⟩
    · exact .inr ⟨starved, mode, by omega, by omega, by omega⟩
    · exact .inl ⟨starved, mode, steps, by omega⟩

theorem Ranked.not_granted (h : Ranked snap ranked) (mem : r ∈ passResults snap) (stays : ¬TakesPart r) :
    r.starved = false ∧ r.mode = .off ∧ r.steps = 0 := by
  rcases result_cases mem with ⟨-, nothing⟩ | ⟨a, shared, bay, -⟩
  · exact nothing
  · exact absurd (h.own_share mem shared bay).2 stays

/-- The form of a grant (R91). -/
theorem Ranked.grant_form (h : Ranked snap ranked) (mem : r ∈ passResults snap) :
    (r.mode = .off ∧ r.steps = 0)
      ∨ (5 ≤ r.steps ∧ r.steps ≤ r.eval.demand ∧ r.eval.demand ≤ r.eval.mmax ∧ r.eval.mmax ≤ 120
          ∧ (r.mode = .heat ∧ r.eval.wanted = .heat ∨ r.mode = .cool ∧ r.eval.wanted = .cool)
          ∧ (r.newState = .active ∨ r.newState = .holding) ∧ r.reversing = false ∧ r.starved = false) := by
  by_cases takes : TakesPart r
  · rcases h.granted mem takes with ⟨-, mode, steps, -⟩ | ⟨starved, mode, enough, most, -⟩
    · exact .inl ⟨mode, steps⟩
    · obtain ⟨eligible, demands, reversing⟩ := takes
      have evaluated : r.eval = evaluate (inputOf snap r.head) := eval_of_mem mem
      obtain ⟨wanted, capable, range⟩ := demanding_evaluate (evaluated ▸ demands)
      rw [← evaluated] at wanted capable range
      refine .inr ⟨enough, most, capable, range, ?_, eligible, reversing, starved⟩
      exact wanted.imp (fun heat => ⟨by rw [mode, heat]; rfl, heat⟩) fun cool => ⟨by rw [mode, cool]; rfl, cool⟩
  · exact .inl (h.not_granted mem takes).2

/-- STARVED is decided for an order that takes part and receives nothing (R89). -/
theorem Ranked.starved_iff (h : Ranked snap ranked) (mem : r ∈ passResults snap) : r.starved = true ↔ TakesPart r ∧ r.steps = 0 := by
  by_cases takes : TakesPart r
  · rcases h.granted mem takes with ⟨starved, -, steps, -⟩ | ⟨starved, -, enough, -⟩
    · simp [starved, takes, steps]
    · simp only [starved, Bool.false_eq_true, false_iff, not_and]
      omega
  · simp [(h.not_granted mem takes).1, takes]

end

/-- Settles O31: `rank` is a sort by R87, and the results stand to its order as `Ranked` has it. -/
theorem distributionStaysInBudget : Obligations.DistributionStaysInBudget := by
  refine ⟨fun shares => ⟨rank_perm shares, (rank_sorted shares).imp fun upTo => (upTo_iff _ _).1 upTo⟩, fun snap ascend => ?_⟩
  obtain ⟨ranked, perm, shares⟩ := exists_ranked snap
  have h : Ranked snap ranked := ⟨perm, shares, ascend⟩
  have site := charged_results_le snap none
  rw [budgetSum_site, budgetSum_site] at site
  refine ⟨site, fun k => ?_, ?_, ⟨ranked, firstFor snap, h.distinct.of_map _, h.mem_iff, h.sorted, h.twoRounds⟩,
    fun r mem => ⟨h.grant_form mem, ?_, fun eligible demands reversing holds => ?_⟩⟩
  · have feeder := charged_results_le snap (some k)
    rw [budgetSum_feeder, budgetSum_feeder] at feeder
    exact feeder
  · rw [passResults_eq, List.map_map]
    exact (List.map_congr_left fun g _ => resultOf_head snap g).trans (List.map_id _)
  · rw [h.starved_iff mem]
    simp only [TakesPart, and_assoc]
  · rcases h.granted mem ⟨eligible, demands, reversing⟩ with ⟨-, -, -, few⟩ | ⟨starved, -, -, -, keeps⟩
    · exact absurd holds (Nat.not_le.2 few)
    · exact ⟨starved, keeps⟩

end Sys2Proof.Allocation
end

section
/-! The committed power (R92): what a step does to the charge of each bay, and what a publish may add. -/

namespace Sys2Proof.Commitment

open Sys2Proof.Machine Sys2Proof.Safety Sys2Proof.Allocation

/-! ### Charges -/

/-- The charge of a bay record: the larger of its applied and pending steps. -/
def bayCharge (x : Bay) : Nat := max x.applied.steps x.pending.steps

theorem charge_eq (s : State) (b : Fin 32) : charge s b = bayCharge (bayAt s b) := rfl

theorem bayCharge_offer (x : Bay) (mode : Mode) (steps : Nat) : bayCharge (x.offer mode steps) = max x.applied.steps steps := by
  simp [bayCharge]

/-- Writing OFF/0 raises no charge. -/
theorem bayCharge_zeroed (x : Bay) : bayCharge (x.offer .off 0) ≤ bayCharge x := by
  rw [bayCharge_offer]
  unfold bayCharge
  omega

theorem bayCharge_drop (x : Bay) (dead : Nat) : bayCharge (x.drop dead) ≤ bayCharge x := by
  simp [bayCharge, Bay.drop, Bay.apply, Grant.initial]

theorem committed_mono {s t : State} (falls : ∀ b, charge t b ≤ charge s b) : committed t ≤ committed s :=
  List.sum_le_sum fun b _ => falls b

/-- The snapshot of a pass charges each bay what it holds (R88). -/
theorem heldCharge_takeSnapshot (s : State) (b : Fin 32) : heldCharge (takeSnapshot s).bays[b] = charge s b := by
  rw [takeSnapshot_bays]
  rfl

theorem siteSum_takeSnapshot (s : State) : siteSum (takeSnapshot s) = committed s :=
  congrArg List.sum (List.map_congr_left fun b _ => heldCharge_takeSnapshot s b)

/-- The site headroom is within the working cap (R105, R115). -/
theorem siteHeadroom_le (s : State) : siteHeadroom s ≤ s.workingCap := by
  have cap : effectiveCap s ≤ s.workingCap := by
    unfold effectiveCap
    split
    · exact Nat.min_le_left _ _
    · exact le_rfl
  unfold siteHeadroom
  split
  · omega
  · omega

/-! ### What keeps the committed sum -/

/-- The working cap and the committed sum are within the ceiling, whatever pass is in flight. -/
def WithinCeiling (s : State) : Prop := s.workingCap ≤ s.ceiling ∧ committed s ≤ s.ceiling

/-- From a state within the ceiling a pass may start. -/
theorem commitSound_startPass {s : State} (within : WithinCeiling s) : CommitSound (startPass s) := by
  obtain ⟨cap, sum⟩ := within
  have started := (startPass_spec s).1
  generalize startPass s = t at started ⊢
  rw [started]
  refine ⟨cap, sum, fun p flying => ?_⟩
  obtain rfl : { snap := takeSnapshot s, age := 0 } = p := Option.some.inj flying
  exact ⟨(siteHeadroom_le s).trans cap, (siteSum_takeSnapshot s).trans_le sum, fun b => (heldCharge_takeSnapshot s b).ge⟩

/-- What leads from `o` to `t` keeps `CommitSound` and raises no bay's charge. -/
structure Eases (o t : State) : Prop where
  sound : CommitSound o → CommitSound t
  falls : ∀ b, charge t b ≤ charge o b

theorem Eases.refl (s : State) : Eases s s := ⟨id, fun _ => le_rfl⟩

section
variable {o s t : State}

/-- Charges that fall under the same caps, with no pass in flight but that of before. -/
theorem Eases.covered (h : Eases o s) (ceiling : t.ceiling = s.ceiling) (cap : t.workingCap = s.workingCap)
    (pass : ∀ p ∈ t.pass, ∃ q ∈ s.pass, p.snap = q.snap) (falls : ∀ b, charge t b ≤ charge s b) : Eases o t := by
  refine ⟨fun sound => ?_, fun b => (falls b).trans (h.falls b)⟩
  obtain ⟨within, sum, flying⟩ := h.sound sound
  have fallen : committed t ≤ t.ceiling := by
    rw [ceiling]
    exact (committed_mono falls).trans sum
  refine ⟨by rw [cap, ceiling]; exact within, fallen, fun p inFlight => ?_⟩
  obtain ⟨q, before, snap⟩ := pass p inFlight
  rw [ceiling, snap]
  obtain ⟨site, siteSum, held⟩ := flying q before
  exact ⟨site, siteSum, fun b => (falls b).trans (held b)⟩

theorem Eases.samePass (h : Eases o s) (ceiling : t.ceiling = s.ceiling) (cap : t.workingCap = s.workingCap)
    (pass : t.pass = s.pass) (falls : ∀ b, charge t b ≤ charge s b) : Eases o t :=
  h.covered ceiling cap (fun p flying => ⟨p, pass ▸ flying, rfl⟩) falls

/-- A state with the bays, caps and pass of another. -/
theorem Eases.frame (h : Eases o s) (bays : t.bays = s.bays) (ceiling : t.ceiling = s.ceiling) (cap : t.workingCap = s.workingCap)
    (pass : t.pass = s.pass) : Eases o t :=
  h.samePass ceiling cap pass fun b => by simp only [charge, bays, le_refl]

/-! ### The shared operations -/

theorem Eases.answer (h : Eases o s) (code : RespCode) (payload : List Byte) : Eases o (answer code payload s) :=
  h.frame rfl rfl rfl rfl

theorem Eases.refuse (h : Eases o s) (code : RespCode) : Eases o (refuse code s) := h.frame rfl rfl rfl rfl

theorem Eases.raise (h : Eases o s) (f : EventFlag) : Eases o (raise f s) := h.frame rfl rfl rfl rfl

theorem Eases.setBay (h : Eases o s) {b : Fin 32} {x : Bay} (falls : bayCharge x ≤ bayCharge (bayAt s b)) :
    Eases o (setBay s b x) := by
  refine h.samePass rfl rfl rfl fun a => ?_
  rw [charge_eq, charge_eq, bayAt_setBay]
  split
  · next same => exact same ▸ falls
  · exact le_rfl

theorem Eases.mapBays (h : Eases o s) {f : Fin 32 → Bay → Bay} (falls : ∀ b x, bayCharge (f b x) ≤ bayCharge x) :
    Eases o (mapBays f s) := by
  refine h.samePass (mapBays_ceiling f s) (mapBays_workingCap f s) (mapBays_pass f s) fun b => ?_
  rw [charge_eq, charge_eq, bayAt_mapBays]
  exact falls b _

theorem Eases.zeroPending (h : Eases o s) (b : Fin 32) : Eases o (zeroPending s b) := h.setBay (bayCharge_zeroed _)

theorem Eases.promoteHead (h : Eases o s) (b : Fin 32) : Eases o (promoteHead s b) := by
  obtain ⟨_, writes⟩ := promoteHead_writes s b
  rw [writes]
  exact h.frame rfl rfl rfl rfl

theorem Eases.rehead (h : Eases o s) (b : Fin 32) (old : Option (Fin 48)) : Eases o (rehead s b old) := by
  obtain ⟨_, writes⟩ := rehead_writes s b old
  rw [writes]
  exact h.frame rfl rfl rfl rfl

theorem Eases.closeRecord (h : Eases o s) (i : Fin 48) (kind : OutcomeKind) : Eases o (closeRecord s i kind) := by
  obtain ⟨_, writes⟩ := closeRecord_writes s i kind
  rw [writes]
  exact h.frame rfl rfl rfl rfl

/-- A head that leaves its queue takes its bay's pending grant with it (R10). -/
theorem Eases.leaveQueue (h : Eases o s) (b : Fin 32) (gone : List (Fin 48)) : Eases o (leaveQueue s b gone) := by
  unfold Machine.leaveQueue
  dsimp only
  have left (q : List (Fin 48)) : Eases o (setQueue s b q) := h.frame rfl rfl rfl rfl
  split
  · exact left _
  · split
    · exact ((left _).zeroPending b).promoteHead b
    · exact left _

theorem Eases.closeOrder (h : Eases o s) (i : Fin 48) (kind : OutcomeKind) : Eases o (closeOrder s i kind) := by
  unfold Machine.closeOrder
  split
  · exact h
  · exact ((h.closeRecord i kind).leaveQueue _ _).raise _

theorem Eases.expire (h : Eases o s) : Eases o (expire s) := by
  unfold Machine.expire
  dsimp only
  split
  · exact h
  · refine Eases.raise (foldl_keeps (Eases o) _ (fun _ b hu => hu.leaveQueue b _) _ _ ?_) _
    refine foldl_keeps (Eases o) _ (fun u i hu => ?_) _ _ h
    split
    · exact hu
    · exact hu.closeRecord _ _

theorem Eases.consult (h : Eases o s) (tag : Tag) : Eases o (consult s tag).1 := by
  obtain ⟨_, writes⟩ := consult_writes s tag
  rw [writes]
  exact h.frame rfl rfl rfl rfl

/-! ### Passes (R73, R74) -/

theorem Eases.startPass (h : Eases o s) : Eases o (startPass s) := by
  refine ⟨fun sound => ?_, fun b => ?_⟩
  · obtain ⟨cap, sum, -⟩ := h.sound sound
    exact commitSound_startPass ⟨cap, sum⟩
  · have started := (startPass_spec s).1
    generalize Machine.startPass s = t at started ⊢
    rw [started]
    exact h.falls b

theorem Eases.abandon (h : Eases o s) (mark : Bool) : Eases o { s with pass := none, passMark := mark } :=
  h.covered rfl rfl nofun fun _ => le_rfl

theorem Eases.requestPass (h : Eases o s) : Eases o (requestPass s) := by
  unfold Machine.requestPass
  split
  · exact h.frame rfl rfl rfl rfl
  · exact h.startPass

/-! ### The bay link (R123 to R142) -/

theorem Eases.beginAllstop (h : Eases o s) : Eases o (beginAllstop s) := by
  obtain ⟨_, _, _, writes⟩ := beginAllstop_writes s
  rw [writes]
  exact h.frame rfl rfl rfl rfl

theorem Eases.requestAllstop (h : Eases o s) (list : Word) : Eases o (requestAllstop list s) := by
  obtain ⟨_, _, _, _, _, _, writes⟩ := requestAllstop_writes list s
  rw [writes]
  exact h.frame rfl rfl rfl rfl

theorem Eases.goOn (h : Eases o s) (n : Nat) : Eases o (goOn s n) := by
  obtain ⟨_, _, _, _, _, _, _, writes⟩ := goOn_writes s n
  rw [writes]
  exact h.frame rfl rfl rfl rfl

theorem Eases.cycleExpiry (h : Eases o s) : Eases o (cycleExpiry s) := by
  unfold Machine.cycleExpiry
  dsimp only
  have restarted : Eases o { s with cycleTimer := Config.second } := h.frame rfl rfl rfl rfl
  split
  · exact restarted.frame rfl rfl rfl rfl
  · exact (restarted.goOn 0).frame rfl rfl rfl rfl

theorem Eases.sendAllstop (h : Eases o s) : Eases o (sendAllstop s) := by
  unfold Machine.sendAllstop
  have sent : Eases o { s with sending := none } := h.frame rfl rfl rfl rfl
  split
  · dsimp only
    split
    · exact sent.beginAllstop
    · exact sent.goOn _
  · exact h.beginAllstop

/-- A hold drops the applied grants (R139). -/
theorem Eases.beginHold (h : Eases o s) : Eases o (beginHold s) := by
  have idle : Eases o { s with exchange := none, cycle := none, allstop := none, sending := none, hold := some holdTime } :=
    h.frame rfl rfl rfl rfl
  refine idle.mapBays fun _ x => ?_
  unfold Bay.linkReset
  dsimp only
  split
  · exact bayCharge_drop x s.tuning.dead
  · exact bayCharge_drop x s.tuning.dead

theorem Eases.holdEnd (h : Eases o s) : Eases o (holdEnd s) := by
  unfold Machine.holdEnd
  split
  · exact h
  · have ended : Eases o (Machine.raise .linkResetDone { s with hold := none }) := h.frame rfl rfl rfl rfl
    dsimp only
    split
    · have begun : Eases o { Machine.raise .linkResetDone { s with hold := none } with deferred := false } :=
        ended.frame rfl rfl rfl rfl
      exact begun.goOn 0
    · exact ended

theorem Eases.lapseBay (h : Eases o s) (b : Fin 32) : Eases o (lapseBay b s) := by
  unfold Machine.lapseBay
  split
  · exact h.setBay (bayCharge_drop _ _)
  · exact h

/-! ### Trips, arrivals and misses -/

theorem Eases.handleCause (h : Eases o s) (b : Fin 32) (c : Cause) : Eases o (handleCause b s c) := by
  unfold Machine.handleCause
  split
  · exact h
  next i q _ =>
  split
  · exact h
  split
  · exact h.frame rfl rfl rfl rfl
  split
  · have tripped (x : Slot) : Eases o (setSlot s i x) := h.frame rfl rfl rfl rfl
    exact ((tripped _).zeroPending b).raise _
  · exact h

theorem Eases.protectArrival (h : Eases o s) (b : Fin 32) (t : Telemetry) : Eases o (protectArrival s b t) :=
  foldl_keeps (Eases o) _ (fun _ c hu => hu.handleCause b c) _ _ (h.setBay le_rfl)

theorem Eases.accumulate (h : Eases o s) (b : Fin 32) (power : Nat) (prev : Option Nat) : Eases o (accumulate s b power prev) := by
  obtain ⟨_, writes⟩ := accumulate_writes s b power prev
  rw [writes]
  exact h.frame rfl rfl rfl rfl

theorem Eases.testUnplug (h : Eases o s) (b : Fin 32) (t : Telemetry) : Eases o (testUnplug s b t) := by
  unfold Machine.testUnplug
  split
  · exact h
  split
  · exact h.closeOrder _ _
  · exact h

/-- A confirmation applies the pending grant, which the charge counts already (R130). -/
theorem bayCharge_echo (x : Bay) (dead echo seqSent : Nat) : bayCharge (x.echo dead echo seqSent) ≤ bayCharge x := by
  unfold Bay.echo
  split
  · simp [bayCharge, Bay.apply]
  · split
    · exact le_rfl
    · exact le_rfl

theorem Eases.validArrival (h : Eases o s) (b : Fin 32) (seqSent echo : Nat) (t : Telemetry) :
    Eases o (validArrival s b seqSent echo t) := by
  have recorded : Eases o (Machine.setBay s b ((bayAt s b).arrive s.tuning.dead s.clock echo seqSent t)) :=
    h.setBay (bayCharge_echo (bayAt s b) s.tuning.dead echo seqSent)
  exact ((recorded.protectArrival b t).accumulate b _ _).testUnplug b t

theorem Eases.miss (h : Eases o s) (b : Fin 32) : Eases o (miss s b) := by
  have counted (n : Nat) (link : LinkState) : Eases o (Machine.setBay s b { bayAt s b with misses := n, link := link }) :=
    h.setBay le_rfl
  unfold Machine.miss
  dsimp only
  split
  · exact h
  · exact counted _ _
  all_goals
    split
    · exact ((counted _ _).raise _).handleCause b _
    · exact counted _ _

theorem Eases.windowClose (h : Eases o s) (chars : List RxChar) : Eases o (windowClose chars s) := by
  have closed : Eases o { s with exchange := none } := h.frame rfl rfl rfl rfl
  unfold Machine.windowClose
  dsimp only
  repeat' split
  · exact h
  · exact closed.miss _
  · exact closed.validArrival _ _ _ _
  · exact (closed.miss _).goOn _
  · exact (closed.validArrival _ _ _ _).goOn _

/-! ### Curtailment (R148 to R153) -/

theorem Eases.curtailBay (h : Eases o s) (b : Fin 32) : Eases o (curtailBay s b) := by
  unfold Machine.curtailBay
  split
  · have paused : Eases o (pauseHead s b) := by
      unfold pauseHead
      split
      · exact h
      · exact h.frame rfl rfl rfl rfl
    exact paused.zeroPending b
  · exact h

theorem Eases.curtailArrival (h : Eases o s) : Eases o (curtailArrival s) := by
  have paused : Eases o (allBays.foldl Machine.curtailBay s) := foldl_keeps (Eases o) _ (fun _ b hu => hu.curtailBay b) _ _ h
  have requested := paused.requestAllstop (allstopList s)
  refine Eases.raise ?_ _
  unfold arrivalPass
  split
  · exact (requested.abandon false).startPass
  · exact requested.startPass

theorem Eases.judgeCurtailment (h : Eases o s) (before : Bool) : Eases o (judgeCurtailment before s) := by
  unfold Machine.judgeCurtailment
  repeat' split
  · exact h
  · exact h.curtailArrival
  · exact h.requestPass.raise _

theorem Eases.curtLineChange (h : Eases o s) (level : Bool) : Eases o (curtLineChange level s) := by
  unfold Machine.curtLineChange
  dsimp only
  have filtered : Eases o { s with curt := s.curt.settle level, lineState := level } := h.frame rfl rfl rfl rfl
  split
  · exact h.frame rfl rfl rfl rfl
  · exact filtered.judgeCurtailment _

theorem Eases.sampleLine (h : Eases o s) : Eases o (sampleLine s) := by
  have sampled (level : Bool) : Eases o { s with lineState := level } := h.frame rfl rfl rfl rfl
  unfold Machine.sampleLine
  split
  · exact (sampled true).curtailArrival
  · exact sampled false

end

end Sys2Proof.Commitment
end

section
/-! Every step keeps the committed power under the ceiling (R92). -/

namespace Sys2Proof.Commitment

open Sys2Proof.Machine Sys2Proof.Safety Sys2Proof.Allocation

/-! ### A publish (R93, R96, R97) -/

section
variable {s : State}

/-- A list of results applied is part of the list given. -/
theorem mem_of_applied {now : Nat} {rs : List PassResult} {r : PassResult} (mem : r ∈ (applyResults now s rs).2) : r ∈ rs := by
  induction rs generalizing s with
  | nil => exact mem
  | cons q rest ih =>
    unfold applyResults at mem
    split at mem
    · rcases List.mem_cons.1 mem with rfl | applied
      · exact List.mem_cons_self
      · exact List.mem_cons_of_mem q (ih applied)
    · exact List.mem_cons_of_mem q (ih mem)

/-- What a bay may be charged while a pass publishes: its charge at the snapshot, or what the pass gives it. -/
def publishable (snap : Snapshot) (b : Fin 32) : Nat := max (heldCharge snap.bays[b]) (stepsFor (passShares snap) b)

/-- The grants of a publish keep every charge publishable. -/
theorem charge_publishGrant_le {snap : Snapshot} {applied : List PassResult} (results : ∀ r ∈ applied, r ∈ passResults snap)
    (below : ∀ b, charge s b ≤ publishable snap b) (a b : Fin 32) : charge (publishGrant applied s a) b ≤ publishable snap b := by
  have zeroed : charge (zeroPending s a) b ≤ publishable snap b := (((Eases.refl s).zeroPending a).falls b).trans (below b)
  unfold publishGrant settleBay
  split
  · next r found =>
    obtain rfl : r.head.bay = a := by simpa using List.find?_some found
    rw [charge_eq, bayAt_writePending]
    split
    · next same =>
      have before := below b
      rw [charge_eq, same] at before
      rw [bayCharge_offer, steps_of_mem (results r (List.mem_of_find?_eq_some found)), same]
      unfold bayCharge publishable at *
      omega
    · exact below b
  · repeat' split
    · exact zeroed
    · exact below b
    · exact zeroed

/-- A pass publishes within the larger of what was charged and the site headroom. -/
theorem sum_publishable_le (snap : Snapshot) : (allBays.map (publishable snap)).sum ≤ max (siteSum snap) snap.site := by
  have charged := charged_pass_le snap none
  rw [budgetSum_site, budgetSum_site] at charged
  exact charged

/-- The state of a publish before its pass ends. -/
def published (s : State) (p : Pass) : State :=
  let done := applyResults p.snap.now s (passResults p.snap)
  let granted := allBays.foldl (publishGrant done.2) done.1
  if done.2.any fun r => r.starved then raise .starved granted else granted

theorem publishPass_of_pass {p : Pass} (flying : s.pass = some p) : publishPass s = endPass (published s p) := by
  unfold publishPass
  rw [flying]
  rfl

theorem publishPass_idle (idle : s.pass = none) : publishPass s = s := by
  unfold publishPass
  rw [idle]

theorem charge_published_le {p : Pass} (below : ∀ b, charge s b ≤ publishable p.snap b) (b : Fin 32) :
    charge (published s p) b ≤ publishable p.snap b := by
  have granted : ∀ b, charge (allBays.foldl (publishGrant (applyResults p.snap.now s (passResults p.snap)).2)
      (applyResults p.snap.now s (passResults p.snap)).1) b ≤ publishable p.snap b := by
    refine foldl_keeps (fun u => ∀ b, charge u b ≤ publishable p.snap b) _
      (fun u a hu => charge_publishGrant_le (fun r mem => mem_of_applied mem) hu a) _ _ fun b => ?_
    obtain ⟨_, _, writes⟩ := applyResults_writes p.snap.now s (passResults p.snap)
    rw [writes]
    exact below b
  unfold published
  dsimp only
  split
  · exact granted b
  · exact granted b

theorem published_writes (p : Pass) :
    ∃ slots profiles bays flags,
      published s p = { s with slots := slots, profiles := profiles, bays := bays, flags := flags } := by
  unfold published
  dsimp only
  generalize applyResults_writes p.snap.now s (passResults p.snap) = applied
  obtain ⟨slots, profiles, applied⟩ := applied
  obtain ⟨bays, granted⟩ := publishGrants_writes (applyResults p.snap.now s (passResults p.snap)).2 allBays
    (applyResults p.snap.now s (passResults p.snap)).1
  rw [granted, applied]
  split
  · exact ⟨_, _, _, _, rfl⟩
  · exact ⟨_, _, _, _, rfl⟩

theorem commitSound_endPass (within : WithinCeiling s) : CommitSound (endPass s) := by
  unfold endPass
  split
  · exact commitSound_startPass within
  · exact ⟨within.1, within.2, nofun⟩

theorem CommitSound.publishPass (h : CommitSound s) : CommitSound (publishPass s) := by
  cases flying : s.pass with
  | none =>
    rw [publishPass_idle flying]
    exact h
  | some p =>
    obtain ⟨cap, -, inFlight⟩ := h
    obtain ⟨site, held, covers⟩ := inFlight p flying
    have below := charge_published_le (p := p) fun b => (covers b).trans (Nat.le_max_left _ _)
    rw [publishPass_of_pass flying]
    refine commitSound_endPass ?_
    have sum : committed (published s p) ≤ s.ceiling :=
      ((List.sum_le_sum fun b _ => below b).trans (sum_publishable_le p.snap)).trans (max_le held site)
    obtain ⟨slots, profiles, bays, flags, writes⟩ := published_writes (s := s) p
    rw [writes] at sum ⊢
    exact ⟨cap, sum⟩

end

/-! ### The commands -/

section
variable {o s : State}

theorem Eases.setClock (h : Eases o s) (now : Nat) : Eases o (Machine.expire { s with clock := now, phase := 0 }) := by
  have written : Eases o { s with clock := now, phase := 0 } := h.frame rfl rfl rfl rfl
  exact written.expire

theorem Eases.clockAdvance (h : Eases o s) : Eases o (clockAdvance s) := by
  unfold Machine.clockAdvance
  split
  · exact h.frame rfl rfl rfl rfl
  · exact h.setClock _

theorem Eases.loadStaleTransition (h : Eases o s) : Eases o (loadStaleTransition s) := by
  unfold Machine.loadStaleTransition
  split
  · exact h
  · exact h.frame rfl rfl rfl rfl

theorem Eases.setTuning (h : Eases o s) (t : Tuning) : Eases o (setTuning t s) := by
  have written : Eases o { s with tuning := t } := h.frame rfl rfl rfl rfl
  refine Eases.answer ?_ _ _
  split
  · exact written.loadStaleTransition
  · exact written

/-- The ceiling rises from 0 only, where nothing is committed and a pass in flight may grant nothing (R101). -/
theorem Eases.setCeiling (h : Eases o s) (value : Half) : Eases o (setCeiling value s) := by
  unfold Machine.setCeiling
  split
  · next unset =>
    refine ⟨fun sound => ?_, h.falls⟩
    obtain ⟨-, sum, flying⟩ := h.sound sound
    have raised : s.ceiling ≤ clamp 1 20000 value.toNat := unset ▸ Nat.zero_le _
    refine ⟨le_rfl, sum.trans raised, fun p inFlight => ?_⟩
    obtain ⟨site, held, covers⟩ := flying p inFlight
    exact ⟨site.trans raised, held.trans raised, covers⟩
  · exact h.refuse _

theorem Eases.setWorkingCap (h : Eases o s) (value : Half) : Eases o (setWorkingCap value s) := by
  refine ⟨fun sound => ?_, h.falls⟩
  obtain ⟨-, sum, flying⟩ := h.sound sound
  exact ⟨Nat.min_le_right _ _, sum, flying⟩

theorem Eases.createOrder (h : Eases o s) (i : Fin 48) (q : Order) : Eases o (createOrder s i q) := by
  refine Eases.rehead ?_ _ _
  exact (h.consult q.tag).frame rfl rfl rfl rfl

theorem Eases.openOrder (h : Eases o s) (bay : Byte) (tag departure : Word) (target : Half) (band priority options : Byte) :
    Eases o (openOrder bay tag departure target band priority options s) := by
  unfold Machine.openOrder
  repeat' split
  · exact h.refuse _
  · exact h.refuse _
  · exact h.refuse _
  · exact h.refuse _
  · exact (h.createOrder _ _).answer _ _
  · exact h.refuse _

theorem Eases.applyAmend (h : Eases o s) (i : Fin 48) (q : Order) (c : Changes) : Eases o (applyAmend s i q c) := by
  unfold Machine.applyAmend
  dsimp only
  have written : Eases o (putOrder s i (amendedOrder q c)) := h.frame rfl rfl rfl rfl
  have tagged : Eases o (if (amendedOrder q c).tag ≠ q.tag then retag (putOrder s i (amendedOrder q c)) i (amendedOrder q c)
      else putOrder s i (amendedOrder q c)) := by
    split
    · exact (written.consult (amendedOrder q c).tag).frame rfl rfl rfl rfl
    · exact written
  split
  · refine Eases.rehead ?_ _ _
    exact tagged.frame rfl rfl rfl rfl
  · exact tagged

theorem Eases.amendOrder (h : Eases o s) (handle : WireHandle) (force changes : Byte) (departure : Word) (target : Half)
    (band priority : Byte) (tag : Word) : Eases o (amendOrder handle force changes departure target band priority tag s) := by
  unfold Machine.amendOrder
  dsimp only
  have amended (i : Fin 48) (q : Order) :
      Eases o (Machine.answer .ok [] (Machine.applyAmend s i q (changesOf force changes departure target band priority tag))) :=
    (h.applyAmend i q _).answer _ _
  repeat' split
  · exact h.refuse _
  · exact h.refuse _
  · exact h.refuse _
  · exact h.refuse _
  · exact h.refuse _
  · exact amended _ _
  · exact h.refuse _
  · exact h.refuse _
  · exact amended _ _

theorem Eases.setLocked (h : Eases o s) (locked : Bool) (handle : WireHandle) : Eases o (setLocked locked handle s) := by
  unfold Machine.setLocked
  repeat' split
  all_goals exact h.frame rfl rfl rfl rfl

theorem Eases.closeCommand (h : Eases o s) (handle : WireHandle) (force : Byte) : Eases o (closeCommand handle force s) := by
  unfold Machine.closeCommand
  repeat' split
  · exact h.refuse _
  · exact h.refuse _
  · exact h.refuse _
  next i q _ _ _ =>
  have unlocked (q : Order) : Eases o (putOrder s i q) := h.frame rfl rfl rfl rfl
  exact ((unlocked _).closeOrder i _).answer _ _

theorem Eases.retireOrder (h : Eases o s) (handle : WireHandle) : Eases o (retireOrder handle s) := by
  unfold Machine.retireOrder
  repeat' split
  all_goals exact h.frame rfl rfl rfl rfl

theorem Eases.rearmOrder (h : Eases o s) (handle : WireHandle) : Eases o (rearmOrder handle s) := by
  unfold Machine.rearmOrder
  repeat' split
  · exact h.refuse _
  · exact h.refuse _
  · exact h.refuse _
  next i q _ _ _ =>
  have planned (q : Order) : Eases o (putOrder s i q) := h.frame rfl rfl rfl rfl
  exact (planned _).requestPass.answer _ _

theorem Eases.profilePreset (h : Eases o s) (tag : Word) (kc u pin : Byte) : Eases o (profilePreset tag kc u pin s) := by
  unfold Machine.profilePreset
  repeat' split
  · exact h.refuse _
  · exact h.frame rfl rfl rfl rfl
  · exact h.refuse _
  · next room =>
    obtain ⟨_, rfl⟩ := makeRoom_writes room
    exact h.frame rfl rfl rfl rfl

/-- ENABLE_BAYS writes no grant (R143). -/
theorem bayCharge_enable (x : Bay) (listed : Bool) : bayCharge (x.enable listed) = bayCharge x := by
  unfold Bay.enable
  split
  all_goals rfl

/-! ### The resets (R101, R103, R141, R146, R147) -/

/-- A state without charges and without a pass in flight. -/
theorem eases_of_empty (o : State) {t : State} (cap : t.workingCap ≤ t.ceiling) (pass : t.pass = none)
    (bays : ∀ b, bayAt t b = Bay.initial) : Eases o t := by
  have empty (b : Fin 32) : charge t b = 0 := by
    rw [charge_eq, bays]
    rfl
  refine ⟨fun _ => ⟨cap, ?_, by simp [pass]⟩, fun b => (empty b).trans_le (Nat.zero_le _)⟩
  have sum : committed t = 0 := List.sum_eq_zero fun n mem => by
    obtain ⟨b, -, rfl⟩ := List.mem_map.1 mem
    exact empty b
  rw [sum]
  exact Nat.zero_le _

theorem eases_powerOnReset (o s : State) (curt : Bool) : Eases o (powerOnReset curt s) :=
  (eases_of_empty o (Nat.zero_le _) rfl fun b => by simp [bayAt, State.reset]).sampleLine

theorem eases_pinReset (o s : State) (curt : Bool) : Eases o (pinReset curt s) :=
  (eases_of_empty o le_rfl rfl fun b => by simp [bayAt, State.reset]).sampleLine

theorem Eases.softReset (h : Eases o s) : Eases o (softReset s) := by
  unfold Machine.softReset
  refine Eases.sampleLine (Eases.mapBays ?_ fun b x => Nat.zero_le _)
  refine h.covered (mapSlots_ceiling _ _) (mapSlots_workingCap _ _) (fun p flying => ?_) fun b => ?_
  · rw [mapSlots_pass] at flying
    cases flying
  · simp only [charge, mapSlots_bays, le_refl]

/-! ### Every command, every event, every step -/

theorem Eases.runCommand (h : Eases o s) {i : Instr} {t : State} (run : runCommand i s = .next t) : Eases o t := by
  cases i with
  | setClock c => cases run; exact (h.setClock _).answer _ _
  | setTuning p d l st sel band => cases run; exact h.setTuning _
  | softReset => cases run; exact h.softReset
  | openOrder => cases run; exact h.openOrder ..
  | amend => cases run; exact h.amendOrder ..
  | lock | unlock => cases run; exact h.setLocked ..
  | close => cases run; exact h.closeCommand ..
  | retire => cases run; exact h.retireOrder ..
  | rearm => cases run; exact h.rearmOrder ..
  | profilePreset => cases run; exact h.profilePreset ..
  | setCeiling v => cases run; exact h.setCeiling v
  | setWorkingCap v => cases run; exact h.setWorkingCap v
  | linkReset => cases run; exact h.beginHold.answer _ _
  | enableBays => cases run; exact (h.mapBays fun b x => (bayCharge_enable x _).le).answer _ _
  | allocateNow => cases run; exact h.requestPass.answer _ _
  | curtail v =>
    cases run
    have written : Eases o { s with softCurtail := flagByte v } := h.frame rfl rfl rfl rfl
    exact (written.judgeCurtailment _).answer _ _
  | lookup | findByBay | findByTag | findByState | profileRead | profileDrop | setFeeder | reportLoad | readBay =>
    cases run
    simp only [lookupOrder, findByBay, findByTag, findByState, profileRead, profileDrop, setFeeder, reportLoad, readBay]
    repeat' split
    all_goals exact h.frame rfl rfl rfl rfl
  | nop | status | clearStatus | setAttnMask | readClock | setCurtailCap | setFallbackCap | readBudget =>
    cases run
    exact h.frame rfl rfl rfl rfl
  | frameError | shortTransfer | powerOnReset | pinReset | curtLineChange | allstop | clockAdvance | periodTimerExpiry | publish
  | cycleTimerExpiry | replyWindowClose | linkResetHoldEnd | lapse | reversalTimerExpiry | loadStaleTransition =>
    cases run
    exact h

theorem Eases.execFrameError (h : Eases o s) {bytes : List Byte} {t : State} (run : execFrameError bytes s = .next t) : Eases o t := by
  unfold Machine.execFrameError at run
  split at run
  · cases run; exact h
  · cases run; exact h.refuse _
  · exact h.runCommand run

theorem Eases.periodExpiry (h : Eases o s) : Eases o (periodExpiry s) := by
  have expired : Eases o { s with periodTimer := 0 } := h.frame rfl rfl rfl rfl
  exact expired.requestPass

theorem Eases.reversalExpiry (h : Eases o s) (b : Fin 32) : Eases o (reversalExpiry b s) := h.setBay le_rfl

/-- Every command and event but a publish raises no charge. -/
theorem Eases.exec (h : Eases o s) {i : Instr} (other : i ≠ .publish) {t : State} (run : exec i s = .next t) : Eases o t := by
  have command (same : Machine.exec i s = Machine.runCommand i s) : Eases o t := h.runCommand (same.symm.trans run)
  cases i with
  | publish => exact absurd rfl other
  | frameError bytes => exact h.execFrameError run
  | shortTransfer => cases run; exact h
  | powerOnReset curt => cases run; exact eases_powerOnReset o s curt
  | pinReset curt => cases run; exact eases_pinReset o s curt
  | curtLineChange level => cases run; exact h.curtLineChange level
  | allstop => cases run; exact h.sendAllstop
  | clockAdvance => cases run; exact h.clockAdvance
  | periodTimerExpiry => cases run; exact h.periodExpiry
  | cycleTimerExpiry => cases run; exact h.cycleExpiry
  | replyWindowClose chars => cases run; exact h.windowClose chars
  | linkResetHoldEnd => cases run; exact h.holdEnd
  | lapse b => cases run; exact h.lapseBay b
  | reversalTimerExpiry b => cases run; exact h.reversalExpiry b
  | loadStaleTransition => cases run; exact h.loadStaleTransition
  | nop | status | clearStatus | setAttnMask | readClock | setClock | setTuning | softReset | openOrder | amend | lock | unlock
  | close | retire | lookup | findByBay | findByTag | findByState | profileRead | profilePreset | profileDrop | setCeiling
  | setWorkingCap | setCurtailCap | setFallbackCap | setFeeder | reportLoad | readBudget | enableBays | linkReset | readBay
  | rearm | curtail | allocateNow => exact command rfl

/-- Every event but a publish raises no charge. -/
theorem Eases.takeEvent (h : Eases o s) {e : TimedEvent} (other : e ≠ .publish) : Eases o (takeEvent s e) := by
  cases e with
  | publish => exact absurd rfl other
  | clock => exact h.clockAdvance
  | period => exact h.periodExpiry
  | cycle => exact h.cycleExpiry
  | hold => exact h.holdEnd
  | window => exact h.windowClose []
  | loadStale => exact h.loadStaleTransition
  | allstop => exact h.sendAllstop
  | curt => exact h.curtLineChange _
  | lapse b => exact h.lapseBay b
  | reversal b => exact h.reversalExpiry b

/-- Time moves the age of a pass in flight and leaves its snapshot and the charges. -/
theorem Eases.elapse (h : Eases o s) : Eases o (elapse s) := by
  unfold Machine.elapse
  refine Eases.mapBays ?_ fun b x => le_rfl
  refine h.covered rfl rfl (fun p flying => ?_) fun b => by simp only [charge, le_refl]
  obtain ⟨q, before, rfl⟩ := Option.map_eq_some_iff.1 flying
  exact ⟨q, before, rfl⟩

theorem elapse_pass (s : State) : (Machine.elapse s).pass = s.pass.map fun p => { p with age := p.age + Config.tickCycles } := by
  unfold Machine.elapse
  rw [mapBays_pass]

/-! The events of an idle step -/

theorem mem_insertAt {α : Type} {n : Nat} {x y : α} {l : List α} (mem : y ∈ insertAt n x l) : y = x ∨ y ∈ l := by
  induction l generalizing n with
  | nil => exact .inl (List.mem_singleton.1 mem)
  | cons z rest ih =>
    cases n with
    | zero => exact List.mem_cons.1 mem
    | succ n =>
      rcases List.mem_cons.1 mem with rfl | inRest
      · exact .inr List.mem_cons_self
      · exact (ih inRest).imp_right (List.mem_cons_of_mem z)

theorem mem_of_mem_arrange {k : Nat} {e : TimedEvent} {l : List TimedEvent} (mem : e ∈ arrange k l) : e ∈ l := by
  induction l generalizing k with
  | nil => exact mem
  | cons d rest ih =>
    rcases mem_insertAt mem with rfl | inRest
    · exact List.mem_cons_self
    · exact List.mem_cons_of_mem d (ih inRest)

/-- A publish comes due for a pass in flight only. -/
theorem publish_not_due {later : State} (idle : later.pass = none) : TimedEvent.publish ∉ dueEvents s later := by
  have notDue : passDue later = false := by
    unfold passDue
    rw [idle]
  simp [dueEvents, notDue]

/-- What one step from `s` may leave: a sound state, and no higher charges when no pass was in flight. -/
structure Kept (s t : State) : Prop where
  sound : CommitSound t
  falls : s.pass = none → ∀ b, charge t b ≤ charge s b

theorem Eases.kept (h : Eases s t) (sound : CommitSound s) : Kept s t := ⟨h.sound sound, fun _ => h.falls⟩

theorem kept_passTime (sound : CommitSound s) : Kept s (passTime s) := by
  have later : Eases s (elapse s) := (Eases.refl s).elapse
  unfold passTime
  refine List.foldlRecOn _ _ (Eases.kept (later.frame rfl rfl rfl rfl) sound) fun u hu e mem => ?_
  split
  · by_cases publishes : e = .publish
    · subst publishes
      refine ⟨CommitSound.publishPass hu.sound, fun idle => absurd (mem_of_mem_arrange mem) (publish_not_due ?_)⟩
      rw [elapse_pass, idle]
      rfl
    · have moved := (Eases.refl u).takeEvent publishes
      exact ⟨moved.sound hu.sound, fun idle b => (moved.falls b).trans (hu.falls idle b)⟩
  · exact hu

theorem kept_tick (sound : CommitSound s) : Kept s (tick s) := by
  unfold tick
  split
  · have filtered : Eases s (filterTime s) := (Eases.refl s).frame rfl rfl rfl rfl
    exact filtered.kept sound
  · exact kept_passTime sound

theorem kept_exec (sound : CommitSound s) {i : Instr} {t : State} (run : exec i s = .next t) : Kept s t := by
  by_cases publishes : i = .publish
  · subst publishes
    cases run
    exact ⟨CommitSound.publishPass sound, fun idle b => by rw [publishPass_idle idle]⟩
  · exact ((Eases.refl s).exec publishes run).kept sound

/-- One step: a command on the state with the queue's rest, or the passing of time. -/
theorem kept_step (sound : CommitSound s) {t : State} (run : step s = .next t) : Kept s t := by
  unfold step at run
  split at run
  · cases run; exact kept_tick sound
  · next c rest _ =>
    have taken : Eases s { s with pending := rest } := (Eases.refl s).frame rfl rfl rfl rfl
    obtain ⟨sound', falls⟩ := kept_exec (taken.sound sound) run
    exact ⟨sound', fun idle b => (falls idle b).trans (taken.falls b)⟩

end

/-- Settles O58: only a publish raises a charge, and it raises them within what its snapshot counted against the ceiling. -/
theorem committedPowerStaysUnderCeiling : Obligations.CommittedPowerStaysUnderCeiling := by
  intro s t sound run
  obtain ⟨sound', falls⟩ := kept_step sound run
  exact ⟨sound', sound'.2.1, fun idle => committed_mono (falls idle)⟩

end Sys2Proof.Commitment
end

section
/-! Eligibility (R79 to R83): the checks of a head's new state, one after the other. -/

namespace Sys2Proof.Allocation

open Sys2Proof.Machine Sys2Proof.Safety

/-- A choice whose condition is that of the first check is judged by that check and, when it fails, by the others. -/
theorem firstOf_ite {α : Type} {p q : Prop} [Decidable p] {v w d : α} {rest : List (Prop × α)} (same : p ↔ q)
    (others : ¬q → FirstOf rest d w) : FirstOf ((q, v) :: rest) d (if p then v else w) := by
  by_cases holds : p
  · rw [if_pos holds]
    exact firstOf_hit (same.1 holds)
  · rw [if_neg holds]
    exact firstOf_miss (mt same.2 holds) (others (mt same.2 holds))

/-- Freshness (R80). -/
theorem freshTele_iff (now : Nat) (x : SnapBay) :
    freshTele now x = true ↔ x.link = .online ∧ (∃ t, x.tele = some t) ∧ ∃ stamp, x.stamp = some stamp ∧ now ≤ stamp + 10 := by
  unfold freshTele
  cases stamp : x.stamp with
  | none => simp
  | some since => simp [Option.isSome_iff_exists, and_assoc, Nat.add_comm]

/-- CABIN_LIMIT against a mode (R81). -/
theorem cabinLimit_iff (mode : Mode) (cabin target : Int) :
    cabinLimit mode cabin target = true ↔ (mode = .heat ∧ 450 < cabin) ∨ (mode = .cool ∧ cabin < target - 60) := by
  cases mode <;> simp [cabinLimit]

/-- The checks of a bay with telemetry as one chain, the fault conditions of R81 among them. -/
theorem checksWithTele_eq (snap : Snapshot) (h : SnapHead) (e : Eval) (t : Telemetry) :
    checksWithTele snap h e t =
      (if t.connector = .unplugged then .paused .absent
       else if h.tag ≠ 0 ∧ t.tag ≠ h.tag then .paused .wrongVehicle
       else if (cabinLimit snap.bays[h.bay].appliedMode t.cabin h.target && !snap.selection.cabinLimit) = true then
         .paused .cabinLimit
       else if (decide (snap.bays[h.bay].overdraw = 2) && !snap.selection.overdraw) = true then .paused .overdraw
       else if (t.hvac == .fault && !snap.selection.hvacFault) = true then .paused .hvacFault
       else if snap.bays[h.bay].feeder.isNone = true then .paused .unmapped
       else if snap.curtailed = true ∧ h.priority ≠ .urgent then .paused .curtail
       else if (e.wanted = .heat ∨ e.wanted = .cool) ∧ e.mmax = 0 then .paused .incapable
       else runningState h.state h.target t.cabin h.band) := by
  unfold checksWithTele unselectedFault
  dsimp only
  generalize (cabinLimit snap.bays[h.bay].appliedMode t.cabin h.target && !snap.selection.cabinLimit) = limit
  generalize (decide (snap.bays[h.bay].overdraw = 2) && !snap.selection.overdraw) = overdraw
  generalize (t.hvac == .fault && !snap.selection.hvacFault) = fault
  cases limit with
  | true => rfl
  | false =>
    cases overdraw with
    | true => rfl
    | false => cases fault <;> rfl

/-- The hysteresis (R83). -/
theorem firstOf_runningState (state : OrderState) (target cabin : Int) (band : Nat) :
    FirstOf [((cabin - target).natAbs ≤ (if state = .holding then band + 5 else band), OrderState.holding)] .active
      (runningState state target cabin band) := by
  refine firstOf_ite ?_ fun _ => rfl
  rw [deltaT, ← Int.natAbs_neg, neg_sub]

/-- Settles O30: `newState` is a chain of choices, each on the condition of its check. -/
theorem eligibilityChecksInOrder : Obligations.EligibilityChecksInOrder := by
  intro snap h
  dsimp only
  refine firstOf_ite (by simp [inputOf]) fun _ => firstOf_ite Iff.rfl fun _ => firstOf_ite ?_ fun fresh => ?_
  · rw [← freshTele_iff]
    simp
  obtain ⟨-, ⟨t, tele⟩, -⟩ := not_not.1 fresh
  simp only [tele, checksWithTele_eq, Option.some.injEq, exists_eq_left']
  refine firstOf_ite Iff.rfl fun _ => firstOf_ite Iff.rfl fun _ => firstOf_ite ?_ fun _ => firstOf_ite ?_ fun _ =>
    firstOf_ite ?_ fun _ => firstOf_ite Option.isNone_iff_eq_none fun _ => firstOf_ite Iff.rfl fun _ => firstOf_ite Iff.rfl fun _ =>
    firstOf_runningState _ _ _ _
  · rw [Bool.and_eq_true, cabinLimit_iff]
    simp
  · simp
  · simp

end Sys2Proof.Allocation
end

section
/-! The results of a publish (R65 to R68, R93 to R95): which apply, what each writes in its slot, and what it learns. -/

namespace Sys2Proof.Publishing

open Sys2Proof.Machine Sys2Proof.Safety Sys2Proof.OrderTable

/-! ### The learning of one result (R66 to R68) -/

/-- What a learning sample of an order finds (R66, R67): a profile that is not pinned, the activation and the cabin
temperature, 600 s and 3 degrees later, and more energy than the losses. -/
structure Sample (before : List Profile) (now : Nat) (cabin : Option Int) (o : Order) (p : Profile) (a : Activation) (c : Int) : Prop where
  tagged : o.tag ≠ 0
  found : before.find? (fun q => q.tag == o.tag) = some p
  free : p.pinned = false
  activation : o.activation = some a
  cabin : cabin = some c
  long : 600 ≤ now - a.time
  far : 30 ≤ (c - a.cabin).natAbs
  heated : a.loss * (now - a.time) / 3600 < o.energy

/-- The Kc that a sample observes (R67). -/
def observed (now : Nat) (o : Order) (a : Activation) (c : Int) : Nat :=
  max 10 (min 250 (((o.energy - a.loss * (now - a.time) / 3600) * 20 + (c - a.cabin).natAbs) / (2 * (c - a.cabin).natAbs)))

section
variable {s : State} {now : Nat} {cabin : Option Int} {o : Order}

theorem learnedProfile_of_sample {p : Profile} {a : Activation} {c : Int} (sample : Sample s.profiles now cabin o p a c) :
    learnedProfile s o now cabin = some (p.learn (observed now o a c)) := by
  obtain ⟨tagged, found, free, activation, rfl, long, far, heated⟩ := sample
  have find : findProfile s o.tag = some p := by rw [findProfile, if_neg tagged, found]
  simp [learnedProfile, find, activation, free, long, far, observedKc, Nat.not_le.2 heated, observed, clamp]

theorem sample_of_learnedProfile {q : Profile} (learned : learnedProfile s o now cabin = some q) :
    ∃ p a c, Sample s.profiles now cabin o p a c := by
  unfold learnedProfile at learned
  split at learned
  · next p a c find activation =>
    dsimp only at learned
    split at learned
    · next allowed =>
      obtain ⟨free, long, far⟩ := allowed
      obtain ⟨obs, observes, -⟩ := Option.map_eq_some_iff.1 learned
      have tagged := (findProfile_some find).1
      rw [findProfile, if_neg tagged] at find
      refine ⟨p, a, c, tagged, find, free, activation, rfl, long, far, ?_⟩
      by_contra cold
      simp [observedKc, Nat.not_lt.1 cold] at observes
    · cases learned
  all_goals cases learned

/-- A result that starts its order brings no sample: its activation is the moment of the snapshot. -/
theorem sample_write_iff {before : List Profile} {r : PassResult} (holds : r.newState = .holding) {p : Profile} {a : Activation} {c : Int} :
    Sample before now cabin (r.write now o) p a c ↔ r.head.started = true ∧ Sample before now cabin o p a c := by
  have starts : r.starts = !r.head.started := by simp [PassResult.starts, holds, OrderState.eligible]
  cases started : r.head.started with
  | true =>
    have activation : (r.write now o).activation = o.activation := by simp [PassResult.write, starts, started]
    simp only [true_and]
    constructor
    · rintro ⟨tagged, found, free, active, cabin, long, far, heated⟩
      exact ⟨tagged, found, free, activation.symm.trans active, cabin, long, far, heated⟩
    · rintro ⟨tagged, found, free, active, cabin, long, far, heated⟩
      exact ⟨tagged, found, free, activation.trans active, cabin, long, far, heated⟩
  | false =>
    have activation : (r.write now o).activation = some (r.activation now) := by simp [PassResult.write, starts, started]
    simp only [Bool.false_eq_true, false_and, iff_false]
    rintro ⟨-, -, -, active, -, long, -, -⟩
    obtain rfl : r.activation now = a := Option.some.inj (activation.symm.trans active)
    simp [PassResult.activation] at long

end

/-! ### What a result writes in its slot (R94, R95) -/

section
variable {s : State} {now : Nat} {r : PassResult}

theorem resultApplies_iff (s : State) (r : PassResult) : resultApplies s r = true ↔ Applies s r := by
  unfold resultApplies Applies HeadOf headSlot
  cases order : orderAt s r.head.slot with
  | none => simp [show (slotAt s r.head.slot).order = none from order]
  | some o =>
    simp only [show (slotAt s r.head.slot).order = some o from order, Bool.and_eq_true, beq_iff_eq, Bool.not_eq_true',
      Option.some.injEq, exists_eq_left']
    tauto

/-- The result is the learning point of a slot's order (R65). -/
def learnsAt (r : PassResult) (x : Slot) : Bool := r.head.state == .active && r.newState == .holding && !x.learnMark

theorem learnsAt_iff (r : PassResult) (x : Slot) :
    learnsAt r x = true ↔ r.head.state = .active ∧ r.newState = .holding ∧ x.learnMark = false := by
  simp [learnsAt, and_assoc]

theorem atLearningPoint_iff (s : State) (r : PassResult) :
    AtLearningPoint s r ↔ Applies s r ∧ learnsAt r (slotAt s r.head.slot) = true := by
  rw [learnsAt_iff]
  rfl

/-- Whether a result's learning would update a profile. -/
def samples (s : State) (now : Nat) (r : PassResult) : Bool :=
  match orderAt s r.head.slot with
  | none => false
  | some o => (learnedProfile s (r.write now o) now r.eval.cabin).isSome

/-- The order record that an applied result leaves, LEARNED set by a sample. -/
def orderWritten (now : Nat) (r : PassResult) (learned : Bool) (o : Order) : Order :=
  { r.write now o with flags := { (r.write now o).flags with learned := o.flags.learned || learned } }

/-- The slot that an applied result leaves. -/
def slotWritten (now : Nat) (r : PassResult) (sampled : Bool) (x : Slot) : Slot :=
  { x with order := x.order.map (orderWritten now r (learnsAt r x && sampled)), learnMark := x.learnMark || learnsAt r x }

theorem orderWritten_false (now : Nat) (r : PassResult) (o : Order) : orderWritten now r false o = r.write now o := by
  simp [orderWritten, PassResult.write]

theorem orderWritten_true (now : Nat) (r : PassResult) (o : Order) :
    orderWritten now r true o = { r.write now o with flags := { (r.write now o).flags with learned := true } } := by
  simp [orderWritten]

theorem applyResult_of_order {o : Order} (order : orderAt s r.head.slot = some o) :
    applyResult s now r =
      if learnsAt r (slotAt s r.head.slot) then
        learningPoint (putOrder s r.head.slot (r.write now o)) now r (r.write now o)
      else putOrder s r.head.slot (r.write now o) := by
  simp only [applyResult, order, learnsAt_iff]

theorem slotAt_learningPoint (s : State) (now : Nat) (r : PassResult) (o : Order) (j : Fin 48) :
    slotAt (learningPoint s now r o) j =
      if j = r.head.slot then
        { slotAt s r.head.slot with
          learnMark := true
          order := if (learnedProfile s o now r.eval.cabin).isSome then some { o with flags := { o.flags with learned := true } }
            else orderAt s r.head.slot }
      else slotAt s j := by
  unfold learningPoint
  dsimp only
  cases learnedProfile s o now r.eval.cabin with
  | none => exact slotAt_setSlot s r.head.slot j _
  | some p =>
    refine (slotAt_putOrder (placeFirst (setSlot s r.head.slot { slotAt s r.head.slot with learnMark := true }) p) r.head.slot j
      _).trans ?_
    have marked (k : Fin 48) : slotAt (placeFirst (setSlot s r.head.slot { slotAt s r.head.slot with learnMark := true }) p) k
        = if k = r.head.slot then { slotAt s r.head.slot with learnMark := true } else slotAt s k := slotAt_setSlot s r.head.slot k _
    rw [marked, marked, if_pos rfl]
    by_cases own : j = r.head.slot
    · rw [if_pos own, if_pos own]
      rfl
    · rw [if_neg own, if_neg own, if_neg own]

theorem slotAt_applyResult {o : Order} (order : orderAt s r.head.slot = some o) (j : Fin 48) :
    slotAt (applyResult s now r) j =
      if j = r.head.slot then slotWritten now r (samples s now r) (slotAt s r.head.slot) else slotAt s j := by
  have order' : (slotAt s r.head.slot).order = some o := order
  have sampled : samples s now r = (learnedProfile s (r.write now o) now r.eval.cabin).isSome := by simp only [samples, order]
  have same : learnedProfile (putOrder s r.head.slot (r.write now o)) (r.write now o) now r.eval.cabin
      = learnedProfile s (r.write now o) now r.eval.cabin := rfl
  rw [applyResult_of_order order, slotWritten, sampled, order', Option.map_some]
  cases learns : learnsAt r (slotAt s r.head.slot) with
  | false =>
    rw [if_neg Bool.false_ne_true, slotAt_putOrder, Bool.false_and, orderWritten_false, Bool.or_false]
  | true =>
    rw [if_pos rfl, slotAt_learningPoint, same, slotAt_putOrder, slotAt_putOrder, orderAt_putOrder_self, if_pos rfl, Bool.true_and,
      Bool.or_true]
    cases (learnedProfile s (r.write now o) now r.eval.cabin).isSome with
    | true =>
      rw [orderWritten_true]
      by_cases own : j = r.head.slot
      · rw [if_pos own, if_pos own]
        rfl
      · rw [if_neg own, if_neg own, if_neg own]
    | false =>
      rw [orderWritten_false]
      by_cases own : j = r.head.slot
      · rw [if_pos own, if_pos own]
        rfl
      · rw [if_neg own, if_neg own, if_neg own]

theorem profiles_applyResult_quiet {o : Order} (order : orderAt s r.head.slot = some o)
    (quiet : learnsAt r (slotAt s r.head.slot) = false) : (applyResult s now r).profiles = s.profiles := by
  rw [applyResult_of_order order, quiet]
  rfl

/-- A learning point leaves the profile table of R66 to R68. -/
theorem learns_applyResult {o : Order} (order : orderAt s r.head.slot = some o) (learns : learnsAt r (slotAt s r.head.slot) = true) :
    Learns o r.head.started now r.eval.cabin s.profiles (applyResult s now r).profiles (samples s now r) := by
  have holds : r.newState = .holding := ((learnsAt_iff _ _).1 learns).2.1
  have sampled : samples s now r = (learnedProfile s (r.write now o) now r.eval.cabin).isSome := by simp only [samples, order]
  have profiles : (applyResult s now r).profiles =
      match learnedProfile s (r.write now o) now r.eval.cabin with
      | none => s.profiles
      | some p => p :: s.profiles.filter fun q => q.tag != p.tag := by
    have same : learnedProfile (putOrder s r.head.slot (r.write now o)) (r.write now o) now r.eval.cabin
        = learnedProfile s (r.write now o) now r.eval.cabin := rfl
    rw [applyResult_of_order order, learns, if_pos rfl]
    unfold learningPoint
    rw [same]
    cases learnedProfile s (r.write now o) now r.eval.cabin <;> rfl
  rw [profiles, sampled]
  cases learned : learnedProfile s (r.write now o) now r.eval.cabin with
  | some q =>
    obtain ⟨p, a, c, sample⟩ := sample_of_learnedProfile learned
    obtain rfl : p.learn (observed now (r.write now o) a c) = q :=
      Option.some.inj ((learnedProfile_of_sample sample).symm.trans learned)
    obtain ⟨started, tagged, found, free, activation, cabin, long, far, heated⟩ := (sample_write_iff holds).1 sample
    have tag : p.tag = o.tag := by simpa using List.find?_some found
    refine .inl ⟨rfl, p, a, c, ⟨started, tagged, found, free, activation, cabin, long, far, heated⟩, ?_⟩
    rw [← tag]
    rfl
  | none =>
    refine .inr ⟨rfl, rfl, ?_⟩
    rintro p a c ⟨started, tagged, found, free, activation, cabin, long, far, heated⟩
    have sample : Sample s.profiles now r.eval.cabin (r.write now o) p a c :=
      (sample_write_iff holds).2 ⟨started, tagged, found, free, activation, cabin, long, far, heated⟩
    rw [learnedProfile_of_sample sample] at learned
    cases learned

end

end Sys2Proof.Publishing
end

section
/-! The publish of a pass (R93 to R98, R74): its results in turn, its grants, and its end. -/

namespace Sys2Proof.Publishing

open Sys2Proof.Machine Sys2Proof.Safety Sys2Proof.OrderTable Sys2Proof.Commitment

/-! ### The results in turn (R93, R94) -/

section
variable {s t : State} {now : Nat} {r : PassResult} {rest : List PassResult}

@[simp] theorem queueAt_applyResult (s : State) (now : Nat) (r : PassResult) (b : Fin 32) :
    queueAt (applyResult s now r) b = queueAt s b := by
  obtain ⟨_, _, writes⟩ := applyResult_writes s now r
  rw [writes]
  rfl

/-- A state in which the results still to come find the queues of `s`, and their heads' slots as `s` holds them. -/
structure StillFinds (s t : State) (rest : List PassResult) : Prop where
  queues : ∀ b, queueAt t b = queueAt s b
  slots : ∀ q ∈ rest, HeadOf s q.head.bay q.head.slot → slotAt t q.head.slot = slotAt s q.head.slot

theorem applies_congr (queues : ∀ b, queueAt t b = queueAt s b)
    (slot : HeadOf s r.head.bay r.head.slot → slotAt t r.head.slot = slotAt s r.head.slot) : Applies t r ↔ Applies s r := by
  have head : HeadOf t r.head.bay r.head.slot ↔ HeadOf s r.head.bay r.head.slot := by rw [HeadOf, HeadOf, queues]
  by_cases first : HeadOf s r.head.bay r.head.slot
  · unfold Applies orderAt
    rw [head, slot first]
  · exact iff_of_false (fun applies => first (head.1 applies.2.1)) fun applies => first applies.2.1

/-- In a sound table the heads of two bays stand in two slots. -/
theorem slot_ne_of_bay_ne (sound : QueuesSound s) {a b : Fin 32} {i j : Fin 48} (headI : HeadOf s a i) (headJ : HeadOf s b j)
    (apart : a ≠ b) : i ≠ j := by
  rintro rfl
  obtain ⟨o, order, bay, -⟩ := QueuesSound.head_order sound headI
  obtain ⟨o', order', bay', -⟩ := QueuesSound.head_order sound headJ
  obtain rfl : o = o' := Option.some.inj (order.symm.trans order')
  exact apart (bay.symm.trans bay')

/-- Applying a result leaves what the results of other bays find. -/
theorem StillFinds.applyResult (h : StillFinds s t (r :: rest)) (sound : QueuesSound s) (applies : Applies s r)
    (apart : ∀ q ∈ rest, r.head.bay ≠ q.head.bay) : StillFinds s (applyResult t now r) rest := by
  obtain ⟨-, head, ⟨o, order, -⟩, -⟩ := applies
  have order' : orderAt t r.head.slot = some o := by
    rw [orderAt, h.slots r List.mem_cons_self head]
    exact order
  refine ⟨fun b => (queueAt_applyResult t now r b).trans (h.queues b), fun q mem first => ?_⟩
  rw [slotAt_applyResult order', if_neg (slot_ne_of_bay_ne sound head first (apart q mem)).symm]
  exact h.slots q (List.mem_cons_of_mem r mem) first

/-- What results, applied from `t` where they apply in `s`, leave in `u`: each applied one its slot, the learning points their
profile tables, and nothing else of slots and profiles. -/
structure AppliedFrom (s : State) (now : Nat) (rs : List PassResult) (t u : State) (sampled : Fin 48 → Bool) : Prop where
  written : ∀ r ∈ rs, Applies s r → slotAt u r.head.slot = slotWritten now r (sampled r.head.slot) (slotAt s r.head.slot)
  kept : ∀ i, (∀ r ∈ rs, Applies s r → r.head.slot ≠ i) → slotAt u i = slotAt t i
  learned : LearnsInTurn s now sampled (rs.filter fun r => resultApplies s r && learnsAt r (slotAt s r.head.slot)) t.profiles u.profiles

/-- The learning in turn asks of the samples at its own slots only. -/
theorem learnsInTurn_congr {sampled sampled' : Fin 48 → Bool} {rs : List PassResult} {before after : List Profile}
    (same : ∀ r ∈ rs, sampled r.head.slot = sampled' r.head.slot) (learns : LearnsInTurn s now sampled rs before after) :
    LearnsInTurn s now sampled' rs before after := by
  induction rs generalizing before with
  | nil => exact learns
  | cons r rest ih =>
    obtain ⟨o, between, order, one, others⟩ := learns
    refine ⟨o, between, order, ?_, ih (fun q mem => same q (List.mem_cons_of_mem r mem)) others⟩
    rw [← same r List.mem_cons_self]
    exact one

section
variable {u : State} {sampled : Fin 48 → Bool}

/-- A result that does not apply is discarded whole. -/
theorem AppliedFrom.cons_discarded (h : AppliedFrom s now rest t u sampled) (discarded : ¬Applies s r) :
    AppliedFrom s now (r :: rest) t u sampled := by
  obtain ⟨written, kept, learned⟩ := h
  refine ⟨List.forall_mem_cons.2 ⟨fun applies => absurd applies discarded, written⟩,
    fun i unnamed => kept i fun q mem => unnamed q (List.mem_cons_of_mem r mem), ?_⟩
  have notPoint : ¬(resultApplies s r && learnsAt r (slotAt s r.head.slot)) = true := by
    rw [Bool.and_eq_true, resultApplies_iff]
    exact fun point => discarded point.1
  rwa [List.filter_cons, if_neg notPoint]

/-- A result that applies writes its slot, which no result after it touches, and learns before them. -/
theorem AppliedFrom.cons_applied (sound : QueuesSound s) (applies : Applies s r) (others : ∀ q ∈ rest, r.head.bay ≠ q.head.bay)
    (slot : slotAt t r.head.slot = slotAt s r.head.slot) (h : AppliedFrom s now rest (applyResult t now r) u sampled) :
    AppliedFrom s now (r :: rest) t u (Function.update sampled r.head.slot (samples t now r)) := by
  obtain ⟨written, kept, learned⟩ := h
  have ⟨_, head, ⟨o, order, _⟩, _⟩ := applies
  have order' : orderAt t r.head.slot = some o := by rw [orderAt, slot]; exact order
  have elsewhere : ∀ q ∈ rest, Applies s q → q.head.slot ≠ r.head.slot := fun q mem other =>
    (slot_ne_of_bay_ne sound head other.2.1 (others q mem)).symm
  refine ⟨List.forall_mem_cons.2 ⟨fun _ => ?_, fun q mem other => ?_⟩, fun i unnamed => ?_, ?_⟩
  · rw [kept _ elsewhere, slotAt_applyResult order', if_pos rfl, slot, Function.update_self]
  · rw [written q mem other, Function.update_of_ne (elsewhere q mem other)]
  · rw [kept i fun q mem => unnamed q (List.mem_cons_of_mem r mem), slotAt_applyResult order',
      if_neg (unnamed r List.mem_cons_self applies).symm]
  · have later := learnsInTurn_congr (sampled' := Function.update sampled r.head.slot (samples t now r)) (fun q point => by
      obtain ⟨mem, point⟩ := List.mem_filter.1 point
      rw [Bool.and_eq_true, resultApplies_iff] at point
      rw [Function.update_of_ne (elsewhere q mem point.1)]) learned
    rw [List.filter_cons, (resultApplies_iff s r).2 applies, Bool.true_and]
    cases learns : learnsAt r (slotAt s r.head.slot) with
    | false =>
      rw [if_neg Bool.false_ne_true]
      rwa [profiles_applyResult_quiet order' (slot ▸ learns)] at later
    | true =>
      rw [if_pos rfl]
      refine ⟨o, (applyResult t now r).profiles, order, ?_, later⟩
      rw [Function.update_self]
      exact learns_applyResult order' (slot ▸ learns)

end

theorem applyResults_discarded (discarded : resultApplies t r = false) : applyResults now t (r :: rest) = applyResults now t rest := by
  rw [applyResults, if_neg (by simp [discarded])]

theorem applyResults_applied (applies : resultApplies t r = true) :
    applyResults now t (r :: rest)
      = ((applyResults now (applyResult t now r) rest).1, r :: (applyResults now (applyResult t now r) rest).2) := by
  rw [applyResults, if_pos applies]

/-- The results of one publish, each taken in the state that those before it leave, are those that apply at its start. -/
theorem applyResults_spec (sound : QueuesSound s) {rs : List PassResult} (apart : rs.Pairwise fun r q => r.head.bay ≠ q.head.bay)
    (finds : StillFinds s t rs) :
    (applyResults now t rs).2 = rs.filter (resultApplies s)
      ∧ ∃ sampled, AppliedFrom s now rs t (applyResults now t rs).1 sampled := by
  induction rs generalizing t with
  | nil => exact ⟨rfl, fun _ => false, List.forall_mem_nil _, fun _ _ => rfl, rfl⟩
  | cons r rest ih =>
    obtain ⟨others, apart'⟩ := List.pairwise_cons.1 apart
    have inTurn : resultApplies t r = resultApplies s r := by
      rw [Bool.eq_iff_iff, resultApplies_iff, resultApplies_iff]
      exact applies_congr finds.queues (finds.slots r List.mem_cons_self)
    cases applies : resultApplies s r with
    | true =>
      have applied := (resultApplies_iff s r).1 applies
      obtain ⟨list, sampled, spec⟩ := ih apart' (finds.applyResult (now := now) sound applied others)
      rw [applyResults_applied (inTurn.trans applies), List.filter_cons, applies, if_pos rfl, list]
      exact ⟨rfl, _, spec.cons_applied sound applied others (finds.slots r List.mem_cons_self applied.2.1)⟩
    | false =>
      have discarded : ¬Applies s r := by rw [← resultApplies_iff, applies]; exact Bool.false_ne_true
      obtain ⟨list, sampled, spec⟩ := ih apart' ⟨finds.queues, fun q mem => finds.slots q (List.mem_cons_of_mem r mem)⟩
      rw [applyResults_discarded (inTurn.trans applies), List.filter_cons, applies, if_neg Bool.false_ne_true, list]
      exact ⟨rfl, sampled, spec.cons_discarded discarded⟩

end

/-! ### The grants (R96, R97) -/

/-- The bay that a publish leaves without a result for it: OFF/0 offered unless its head runs on (R97). -/
def baySettled (s : State) (b : Fin 32) : Bay :=
  match headOrder s b with
  | none => (bayAt s b).offer .off 0
  | some (_, o) => if o.running then bayAt s b else (bayAt s b).offer .off 0

/-- The bay that a publish leaves: the grant of its applied result offered (R96), settled without one. -/
def bayPublished (applied : List PassResult) (s : State) (b : Fin 32) : Bay :=
  match applied.find? fun r => r.head.bay == b with
  | some r => (bayAt s b).offer r.mode r.steps
  | none => baySettled s b

section
variable {s : State} {applied : List PassResult}

theorem bayAt_publishGrant (applied : List PassResult) (s : State) (a b : Fin 32) :
    bayAt (publishGrant applied s a) b = if b = a then bayPublished applied s a else bayAt s b := by
  have zeroed : bayAt (zeroPending s a) b = if b = a then (bayAt s a).offer .off 0 else bayAt s b := bayAt_writePending s b a .off 0
  have same : (if b = a then bayAt s a else bayAt s b) = bayAt s b := by
    split
    · next same => rw [same]
    · rfl
  cases found : applied.find? fun r => r.head.bay == a with
  | some r =>
    simp only [publishGrant, bayPublished, found]
    exact bayAt_writePending s b a r.mode r.steps
  | none =>
    cases head : headOrder s a with
    | none =>
      simp only [publishGrant, settleBay, bayPublished, baySettled, found, head]
      exact zeroed
    | some first =>
      simp only [publishGrant, settleBay, bayPublished, baySettled, found, head]
      cases first.2.running with
      | true => exact same.symm
      | false => exact zeroed

theorem bayPublished_publishGrant {a b : Fin 32} (apart : b ≠ a) :
    bayPublished applied (publishGrant applied s a) b = bayPublished applied s b := by
  have bay : bayAt (publishGrant applied s a) b = bayAt s b := by rw [bayAt_publishGrant, if_neg apart]
  have head : headOrder (publishGrant applied s a) b = headOrder s b := by
    obtain ⟨_, writes⟩ := publishGrant_writes applied s a
    rw [writes]
    rfl
  simp only [bayPublished, baySettled, bay, head]

/-- Each bay is granted once, by itself. -/
theorem bayAt_publishGrants {l : List (Fin 32)} (distinct : l.Nodup) (b : Fin 32) :
    bayAt (l.foldl (publishGrant applied) s) b = if b ∈ l then bayPublished applied s b else bayAt s b := by
  induction l generalizing s with
  | nil => rfl
  | cons a rest ih =>
    obtain ⟨absent, distinct'⟩ := List.nodup_cons.1 distinct
    rw [List.foldl_cons, ih distinct']
    by_cases same : b = a
    · subst same
      rw [if_neg absent, if_pos List.mem_cons_self, bayAt_publishGrant, if_pos rfl]
    · rw [bayPublished_publishGrant same, bayAt_publishGrant, if_neg same]
      simp [same]

end

end Sys2Proof.Publishing
end

section
/-! The publish of a pass as a whole (R93 to R98): slots, learning, bays and flags. -/

namespace Sys2Proof.Publishing

open Sys2Proof.Machine Sys2Proof.Safety Sys2Proof.OrderTable Sys2Proof.Commitment

/-- Part 1 of a publish (R93): the state that its results leave, and those applied. -/
abbrev resultsDone (s : State) (p : Pass) : State × List PassResult := applyResults p.snap.now s (passResults p.snap)

section
variable {s : State} {p : Pass}

/-! ### What part 2 and the flag leave of part 1 -/

theorem published_of_done (s : State) (p : Pass) :
    ∃ bays flags, published s p = { (resultsDone s p).1 with bays := bays, flags := flags } := by
  obtain ⟨bays, granted⟩ := publishGrants_writes (resultsDone s p).2 allBays (resultsDone s p).1
  unfold published
  dsimp only
  rw [granted]
  split
  · exact ⟨_, _, rfl⟩
  · exact ⟨_, _, rfl⟩

theorem slotAt_published (s : State) (p : Pass) (i : Fin 48) : slotAt (published s p) i = slotAt (resultsDone s p).1 i := by
  obtain ⟨_, _, writes⟩ := published_of_done s p
  rw [writes]
  rfl

theorem profiles_published (s : State) (p : Pass) : (published s p).profiles = (resultsDone s p).1.profiles := by
  obtain ⟨_, _, writes⟩ := published_of_done s p
  rw [writes]

theorem bayAt_published (s : State) (p : Pass) (b : Fin 32) :
    bayAt (published s p) b = bayPublished (resultsDone s p).2 (resultsDone s p).1 b := by
  have granted : bayAt (published s p) b = bayAt (allBays.foldl (publishGrant (resultsDone s p).2) (resultsDone s p).1) b := by
    unfold published
    dsimp only
    split
    · rfl
    · rfl
  rw [granted, allBays, bayAt_publishGrants (List.nodup_finRange 32), if_pos (List.mem_finRange b)]

theorem flags_published (s : State) (p : Pass) :
    (published s p).flags = if (resultsDone s p).2.any fun r => r.starved then s.flags ||| 0x04 else s.flags := by
  obtain ⟨_, _, done⟩ := applyResults_writes p.snap.now s (passResults p.snap)
  obtain ⟨_, granted⟩ := publishGrants_writes (resultsDone s p).2 allBays (resultsDone s p).1
  have flags : (allBays.foldl (publishGrant (resultsDone s p).2) (resultsDone s p).1).flags = s.flags := by
    rw [granted, done]
  unfold published
  dsimp only
  split
  · rw [← flags]
    rfl
  · exact flags

/-! ### The publish of a sound state's pass -/

section
variable (sound : QueuesSound s) (ascend : p.snap.heads.Pairwise fun x y => x.bay < y.bay)
include sound ascend

theorem resultsDone_spec :
    (resultsDone s p).2 = (passResults p.snap).filter (resultApplies s)
      ∧ ∃ sampled, AppliedFrom s p.snap.now (passResults p.snap) s (published s p) sampled := by
  have apart := List.pairwise_map.1 (Allocation.bays_distinct ascend)
  obtain ⟨applied, sampled, written, kept, learned⟩ :=
    applyResults_spec (now := p.snap.now) sound apart (StillFinds.mk (t := s) (fun _ => rfl) fun _ _ _ => rfl)
  refine ⟨applied, sampled, fun r mem applies => ?_, fun i unnamed => ?_, ?_⟩
  · rw [slotAt_published, written r mem applies]
  · rw [slotAt_published, kept i unnamed]
  · rw [profiles_published]
    exact learned

theorem mem_applied (r : PassResult) : r ∈ (resultsDone s p).2 ↔ r ∈ passResults p.snap ∧ Applies s r := by
  rw [(resultsDone_spec sound ascend).1, List.mem_filter, resultApplies_iff]

/-- The grant of an applied result is offered to its bay (R96). -/
theorem bayAt_published_applied {r : PassResult} (mem : r ∈ passResults p.snap) (applies : Applies s r) :
    bayAt (published s p) r.head.bay = (bayAt s r.head.bay).offer r.mode r.steps := by
  obtain ⟨_, _, writes⟩ := applyResults_writes p.snap.now s (passResults p.snap)
  have bay : bayAt (resultsDone s p).1 r.head.bay = bayAt s r.head.bay := by rw [writes]; rfl
  have found : ((resultsDone s p).2.find? fun q => q.head.bay == r.head.bay) = some r := by
    cases first : (resultsDone s p).2.find? fun q => q.head.bay == r.head.bay with
    | none => exact absurd (List.find?_eq_none.1 first r ((mem_applied sound ascend r).2 ⟨mem, applies⟩)) (by simp)
    | some q =>
      have listed := ((mem_applied sound ascend q).1 (List.mem_of_find?_eq_some first)).1
      rw [Allocation.eq_of_bay ascend listed mem (by simpa using List.find?_some first)]
  rw [bayAt_published]
  simp only [bayPublished, found, bay]

/-- A bay without an applied result is zeroed unless its head runs on (R97). -/
theorem bayAt_published_unnamed {b : Fin 32} (unnamed : ¬∃ r ∈ passResults p.snap, Applies s r ∧ r.head.bay = b) :
    bayAt (published s p) b = baySettled s b := by
  obtain ⟨_, _, writes⟩ := applyResults_writes p.snap.now s (passResults p.snap)
  obtain ⟨_, sampled, -, kept, -⟩ := resultsDone_spec sound ascend
  have bay : bayAt (resultsDone s p).1 b = bayAt s b := by rw [writes]; rfl
  have head : headSlot (resultsDone s p).1 b = headSlot s b := by rw [writes]; rfl
  have order : headOrder (resultsDone s p).1 b = headOrder s b := by
    unfold headOrder
    rw [head]
    cases first : headSlot s b with
    | none => rfl
    | some i =>
      have same : slotAt (resultsDone s p).1 i = slotAt s i := by
        rw [← slotAt_published]
        exact kept i fun r mem applies => slot_ne_of_bay_ne sound applies.2.1 first fun e => unnamed ⟨r, mem, applies, e⟩
      simp only [orderAt, same]
  have found : ((resultsDone s p).2.find? fun q => q.head.bay == b) = none := by
    refine List.find?_eq_none.2 fun q applied same => ?_
    obtain ⟨mem, applies⟩ := (mem_applied sound ascend q).1 applied
    exact unnamed ⟨q, mem, applies, by simpa using same⟩
  rw [bayAt_published]
  simp only [bayPublished, found, baySettled, bay, order]

/-- STARVED is raised exactly for an applied starved result (R98). -/
theorem any_starved_iff :
    ((resultsDone s p).2.any fun r => r.starved) = true ↔ ∃ r ∈ passResults p.snap, Applies s r ∧ r.starved = true := by
  rw [List.any_eq_true]
  constructor
  · rintro ⟨r, applied, starved⟩
    obtain ⟨mem, applies⟩ := (mem_applied sound ascend r).1 applied
    exact ⟨r, mem, applies, starved⟩
  · rintro ⟨r, mem, applies, starved⟩
    exact ⟨r, (mem_applied sound ascend r).2 ⟨mem, applies⟩, starved⟩

end

/-! ### The clauses of a publish -/

theorem starts_iff (r : PassResult) :
    r.starts = true ↔ r.head.started = false ∧ (r.newState = .active ∨ r.newState = .holding) := by
  rw [PassResult.starts, Bool.and_eq_true, Bool.not_eq_true', Allocation.eligible_iff]

theorem AppliedFrom.gen_changeMark {u : State} {sampled : Fin 48 → Bool} {now : Nat} {rs : List PassResult}
    (h : AppliedFrom s now rs s u sampled) (i : Fin 48) :
    (slotAt u i).gen = (slotAt s i).gen ∧ (slotAt u i).changeMark = (slotAt s i).changeMark := by
  by_cases named : ∃ r ∈ rs, Applies s r ∧ r.head.slot = i
  · obtain ⟨r, mem, applies, rfl⟩ := named
    rw [h.written r mem applies]
    exact ⟨rfl, rfl⟩
  · rw [h.kept i fun r mem applies slot => named ⟨r, mem, applies, slot⟩]
    exact ⟨rfl, rfl⟩

/-- Settles O33: the publish is that of `published`, whose results, grants and flag are those of R94 to R98, and the pass ends
as `endPass` ends it. -/
theorem publishAppliesMatchingResults : Obligations.PublishAppliesMatchingResults := by
  intro s p sound flying ascend
  obtain ⟨-, sampled, applied⟩ := resultsDone_spec sound ascend
  refine ⟨published s p, endPass (published s p),
    (passResults p.snap).filter fun r => resultApplies s r && learnsAt r (slotAt s r.head.slot), sampled,
    congrArg _ (publishPass_of_pass flying), endPass_spec _, List.filter_sublist, fun r => ?points, applied.learned,
    fun r mem applies o order => ?written, fun i unnamed => ?kept, applied.gen_changeMark, fun b unnamed => ?bays,
    fun starved => ?starved, fun none => ?none, ?frame⟩
  case points => rw [List.mem_filter, Bool.and_eq_true, resultApplies_iff, atLearningPoint_iff]
  case written =>
    have order' : (slotAt s r.head.slot).order = some o := order
    have slot := applied.written r mem applies
    have point : AtLearningPoint s r ↔ learnsAt r (slotAt s r.head.slot) = true := by
      rw [atLearningPoint_iff, and_iff_right applies]
    refine ⟨o.flags.learned || (learnsAt r (slotAt s r.head.slot) && sampled r.head.slot), o.started || r.starts,
      if r.starts then some (r.activation p.snap.now) else o.activation, ?_, fun learns => ?_, fun quiet => ?_, fun starts => ?_,
      fun runs => ?_, bayAt_published_applied sound ascend mem applies⟩
    · rw [orderAt, slot, slotWritten, order']
      rfl
    · rw [slot, slotWritten, point.1 learns, Bool.true_and, Bool.or_true]
      exact ⟨rfl, rfl⟩
    · rw [slot, slotWritten, Bool.eq_false_iff.2 fun learns => quiet (point.2 learns), Bool.false_and, Bool.or_false, Bool.or_false]
      exact ⟨rfl, rfl⟩
    · rw [(starts_iff r).2 starts, if_pos rfl]
      refine ⟨Bool.or_true _, _, rfl, rfl, rfl, rfl, rfl, fun c cabin => ?_⟩
      simp [PassResult.activation, cabin]
    · rw [Bool.eq_false_iff.2 fun starts => runs ((starts_iff r).1 starts), if_neg Bool.false_ne_true]
      exact ⟨Bool.or_false _, rfl⟩
  case kept => exact applied.kept i fun r mem applies slot => unnamed ⟨r, mem, applies, slot⟩
  case bays =>
    rw [bayAt_published_unnamed sound ascend unnamed, baySettled]
    cases first : headOrder s b with
    | none =>
      refine ⟨fun ⟨i, o, head, order, _⟩ => ?_, fun _ => rfl⟩
      rw [(headOrder_iff s b i o).2 ⟨head, order⟩] at first
      cases first
    | some q =>
      obtain ⟨head, order⟩ := (headOrder_iff s b q.1 q.2).1 first
      refine ⟨fun ⟨i, o, head', order', runs⟩ => ?_, fun rests => ?_⟩
      · rw [(headOrder_iff s b i o).2 ⟨head', order'⟩] at first
        obtain rfl := Option.some.inj first
        exact if_pos ((running_iff o).2 runs)
      · exact if_neg fun runs => rests ⟨q.1, q.2, head, order, (running_iff q.2).1 runs⟩
  case starved => rw [flags_published, if_pos ((any_starved_iff sound ascend).2 starved)]
  case none => rw [flags_published, if_neg fun starved => none ((any_starved_iff sound ascend).1 starved)]
  case frame =>
    obtain ⟨_, _, _, _, writes⟩ := published_writes (s := s) p
    generalize published s p = u at writes
    subst writes
    rfl

end

end Sys2Proof.Publishing
end

section
/-! The site budget unit: to which feeder a bay belongs (R108, R109), the windows after the resets, the load report (R112,
R113) and what READ_BUDGET returns (R115); and SET_TUNING (R194, R195), whose load stale time acts on the load record. -/

namespace Sys2Proof.SiteBudget

open Sys2Proof.Machine Sys2Proof.Safety Sys2Proof.OrderTable Sys2Proof.SettingsRange

/-! ### The feeder of a bay (R109) -/

theorem holds_iff (w : Window) (b : Fin 32) : w.holds b = true ↔ w.base ≤ b.val ∧ b.val ≤ w.limit := by
  simp [Window.holds]

theorem holds_eq_false (w : Window) (b : Fin 32) : w.holds b = false ↔ ¬(w.base ≤ b.val ∧ b.val ≤ w.limit) := by
  rw [← holds_iff, Bool.not_eq_true]

theorem feederOf_eq_some (windows : Vector Window 4) (b : Fin 32) (k : Fin 4) :
    feederOf windows b = some k ↔ windows[k].holds b = true ∧ ∀ j < k, windows[j].holds b = false := by
  rw [feederOf, ← Fin.find?_eq_find?_finRange, Fin.find?_eq_some_iff]

theorem feederOf_eq_none (windows : Vector Window 4) (b : Fin 32) :
    feederOf windows b = none ↔ ∀ k : Fin 4, windows[k].holds b = false := by
  rw [feederOf, ← Fin.find?_eq_find?_finRange, Fin.find?_eq_none_iff]

/-! ### SET_FEEDER (R108) -/

theorem getElem_set_other (windows : Vector Window 4) {k j : Fin 4} (other : j ≠ k) (w : Window) :
    (windows.set k w)[j] = windows[j] := by
  rw [Fin.getElem_fin, Vector.getElem_set_ne _ _ fun same => other (Fin.ext same.symm), Fin.getElem_fin]

/-- Base and limit as the byte fields of a window's answer, its cap as a field of two bytes. -/
theorem readFields_windowBytes (w : Window) (ws : List Nat) (q : List Byte) :
    readFields (1 :: 1 :: 2 :: ws) (windowBytes w ++ q)
      = (readFields ws q).map fun vs => w.base % 256 :: w.limit % 256 :: w.cap % 65536 :: vs := by
  simp only [windowBytes, List.cons_append, List.nil_append, readFields_byte, readFields_be16, toNat_byteOf, Option.map_map]
  rfl

theorem read_window (w : Window) : readFields [1, 1, 2] (windowBytes w) = some (atWidths [1, 1, 2] [w.base, w.limit, w.cap]) := by
  simpa using readFields_windowBytes w [] []

theorem exec_setFeeder_above {feeder : Byte} (above : 3 < feeder.toNat) (base limit : Byte) (cap : Half) (s : State) :
    exec (.setFeeder feeder base limit cap) s = .next (refuse .badValue s) := by
  rw [exec, execSetFeeder, setFeeder, (feederOfByte_none feeder).2 above]

theorem exec_setFeeder {feeder : Byte} {k : Fin 4} (named : k.val = feeder.toNat) (base limit : Byte) (cap : Half) (s : State) :
    let w : Window := { base := min base.toNat 31, limit := min limit.toNat 31, cap := min cap.toNat 20000 }
    exec (.setFeeder feeder base limit cap) s = .next (answer .ok (windowBytes w) { s with windows := s.windows.set k w }) := by
  rw [exec, execSetFeeder, setFeeder, (feederOfByte_iff feeder k).2 named.symm]
  rfl

/-! ### The windows after the resets (R108) -/

theorem windows_sampleLine (s : State) : (sampleLine s).windows = s.windows :=
  show (settings (sampleLine s)).windows = (settings s).windows from congrArg State.windows (settings_sampleLine s)

theorem windows_powerOnReset (curt : Bool) (s : State) : (powerOnReset curt s).windows = Window.initial := windows_sampleLine _

theorem windows_pinReset (curt : Bool) (s : State) : (pinReset curt s).windows = Window.initial := windows_sampleLine _

theorem windows_softReset (s : State) : (softReset s).windows = s.windows := by
  rw [softReset, windows_sampleLine, mapBays_windows, mapSlots_windows]

theorem exec_powerOnReset (curt : Bool) (s : State) : exec (.powerOnReset curt) s = .next (powerOnReset curt s) := rfl
theorem exec_pinReset (curt : Bool) (s : State) : exec (.pinReset curt) s = .next (pinReset curt s) := rfl
theorem exec_softReset (s : State) : exec .softReset s = .next (softReset s) := rfl

/-- Settles O36: a bay's feeder is the first window found, SET_FEEDER sets one element, and the cold resets leave
`Window.initial`. -/
theorem feederWindowsAndDecoding : Obligations.FeederWindowsAndDecoding := by
  refine ⟨fun windows b => ⟨fun k => ?_, ?_⟩, fun feeder base limit cap curt s => ⟨fun above => ?_, fun k named => ?_, ?_, ?_⟩⟩
  · simp only [feederOf_eq_some, holds_iff, holds_eq_false]
  · simp only [feederOf_eq_none, holds_eq_false]
  · exact exec_setFeeder_above above base limit cap s
  · exact ⟨s.windows.set k _, Vector.getElem_set_self _, fun j other => getElem_set_other s.windows other _, rfl, _,
      read_window _, exec_setFeeder named base limit cap s⟩
  · rintro c (rfl | rfl)
    · exact ⟨_, exec_powerOnReset curt s, by rw [windows_powerOnReset]; exact ⟨rfl, rfl, rfl, rfl⟩⟩
    · exact ⟨_, exec_pinReset curt s, by rw [windows_pinReset]; exact ⟨rfl, rfl, rfl, rfl⟩⟩
  · exact ⟨_, exec_softReset s, windows_softReset s⟩

/-! ### The load record turned STALE (R113) -/

theorem loadStaleTransition_of_stale {s : State} (stale : s.load.state = .stale) : loadStaleTransition s = s := by
  rw [loadStaleTransition, stale]

theorem loadStaleTransition_of_fresh {s : State} (fresh : s.load.state = .fresh) :
    loadStaleTransition s = { s with load := s.load.toStale s.tuning.stale, flags := s.flags ||| 0x10 } := by
  rw [loadStaleTransition, fresh]
  rfl

/-- The age of a record that turns STALE (log 6). -/
def staleAge (staleTime : Nat) (age : Option Nat) : Option Nat := age.map fun a => max a (staleTime * 16000000)

theorem toStale_eq (l : LoadRecord) (staleTime : Nat) :
    l.toStale staleTime = { l with state := .stale, age := staleAge staleTime l.age } := by
  unfold LoadRecord.toStale staleAge
  cases l.age <;> rfl

/-- An age that has reached the load stale time stays as it is. -/
theorem staleAge_of_reached {staleTime a : Nat} (reached : staleTime * 16000000 ≤ a) : staleAge staleTime (some a) = some a :=
  congrArg some (max_eq_left reached)

theorem le_of_mem_staleAge {staleTime a : Nat} {age : Option Nat} (mem : a ∈ staleAge staleTime age) :
    staleTime * 16000000 ≤ a := by
  obtain ⟨c, -, rfl⟩ := Option.map_eq_some_iff.1 mem
  exact Nat.le_max_right _ _

theorem loadDue_iff (s : State) :
    loadDue s = true ↔ ∃ a, s.load.state = .fresh ∧ s.load.age = some a ∧ s.tuning.stale * 16000000 ≤ a := by
  unfold loadDue
  cases s.load.state with
  | stale => simp
  | fresh => cases s.load.age <;> simp

/-- A record whose age has reached the load stale time turns STALE with all its figures. -/
theorem loadStaleTransition_of_due {s : State} (due : loadDue s = true) :
    loadStaleTransition s = { s with load := { s.load with state := .stale }, flags := s.flags ||| 0x10 } := by
  obtain ⟨a, fresh, age, reached⟩ := (loadDue_iff s).1 due
  rw [loadStaleTransition_of_fresh fresh, toStale_eq, age, staleAge_of_reached reached, ← age]

/-! ### SET_TUNING (R194, R195) -/

/-- The code of a set of causes read from a byte is the byte's low four bits. -/
theorem code_causeSetOf (b : Byte) : (causeSetOf b).code = b.toNat % 16 := by
  have bit (i : Nat) : (b.getLsbD i).toNat = b.toNat / 2 ^ i % 2 := Nat.toNat_testBit b.toNat i
  simp only [CauseSet.code, causeSetOf, namedBit, bit]
  omega

theorem read_tuning (t : Tuning) :
    readFields [2, 2, 2, 2, 1, 1] (tuningBytes t)
      = some (atWidths [2, 2, 2, 2, 1, 1] [t.period, t.dead, t.lead, t.stale, t.selection.code, t.band]) := by
  simp [tuningBytes, readFields_be16, readFields_byte]

/-- SET_TUNING answers the values it stores, whatever state it leaves. -/
theorem answers_setTuning (period dead lead stale : Half) (selection band : Byte) {s t : State} :
    let tuning := tuningOf period dead lead stale selection band
    setTuning tuning s = answer .ok (tuningBytes tuning) t →
      Answers (.setTuning period dead lead stale selection band) s t [2, 2, 2, 2, 1, 1]
        [tuning.period, tuning.dead, tuning.lead, tuning.stale, selection.toNat % 16, tuning.band] := by
  intro tuning run
  rw [← code_causeSetOf]
  exact ⟨rfl, _, read_tuning tuning, congrArg _ run⟩

theorem setTuning_of_due {t : Tuning} {s : State} (due : loadDue { s with tuning := t } = true) :
    setTuning t s = answer .ok (tuningBytes t)
      { s with tuning := t, load := { s.load with state := .stale }, flags := s.flags ||| 0x10 } := by
  rw [setTuning, if_pos due, loadStaleTransition_of_due due]

theorem setTuning_of_not_due {t : Tuning} {s : State} (due : ¬loadDue { s with tuning := t } = true) :
    setTuning t s = answer .ok (tuningBytes t) { s with tuning := t } := by
  rw [setTuning, if_neg due]

/-- Settles O12: the load record turns STALE exactly when its age has reached the load stale time written. -/
theorem tuningWritten : Obligations.TuningWritten := by
  intro period dead lead stale selection band s
  have due := loadDue_iff { s with tuning := tuningOf period dead lead stale selection band }
  refine ⟨fun turns => ?_, fun stays => ?_⟩
  · exact answers_setTuning period dead lead stale selection band (setTuning_of_due (due.2 turns))
  · exact answers_setTuning period dead lead stale selection band (setTuning_of_not_due fun d => stays (due.1 d))

/-! ### REPORT_LOAD and the transition (R112, R113) -/

theorem exec_loadStaleTransition (s : State) : exec .loadStaleTransition s = .next (loadStaleTransition s) := rfl

theorem exec_reportLoad (site : Half) (count : Byte) (loads : List Half) (s : State) :
    exec (.reportLoad site count loads) s = .next (reportLoad site count loads s) := rfl

theorem reportLoad_above {count : Byte} (above : 4 < count.toNat) (site : Half) (loads : List Half) (s : State) :
    reportLoad site count loads s = refuse .badValue s := if_pos above

theorem reportLoad_mismatch {count : Byte} {loads : List Half} (range : count.toNat ≤ 4) (mismatch : loads.length ≠ count.toNat)
    (site : Half) (s : State) : reportLoad site count loads s = refuse .badLength s := by
  rw [reportLoad, if_neg range.not_gt, if_pos mismatch]

theorem reportLoad_listed {count : Byte} {loads : List Half} (range : count.toNat ≤ 4) (listed : loads.length = count.toNat)
    (site : Half) (s : State) : reportLoad site count loads s = answer .ok [] { s with load := reportedLoad site loads } := by
  rw [reportLoad, if_neg range.not_gt, if_neg (not_not_intro listed)]

theorem reportedLoad_feeders (site : Half) (loads : List Half) (k : Fin 4) :
    (reportedLoad site loads).feeders[k] = (loads[k.val]?).elim 0 fun l => min l.toNat 20000 := by
  simp only [reportedLoad, Fin.getElem_fin, Vector.getElem_ofFn]
  cases loads[k.val]? <;> rfl

/-- Settles O37: the transition with the age `staleAge`, and the three answers of REPORT_LOAD. -/
theorem loadReportAndStaleTransition : Obligations.LoadReportAndStaleTransition := by
  refine ⟨fun s => ⟨fun stale => ?_, fun fresh => ⟨staleAge s.tuning.stale s.load.age, ?_, fun a age reached => ?_, ?_⟩⟩,
    fun site count loads s => ⟨fun above => ?_, fun range mismatch => ?_, fun range listed => ?_⟩⟩
  · rw [exec_loadStaleTransition, loadStaleTransition_of_stale stale]
  · rw [exec_loadStaleTransition, loadStaleTransition_of_fresh fresh, toStale_eq]
  · rw [age, staleAge_of_reached reached]
  · exact fun a => le_of_mem_staleAge
  · rw [exec_reportLoad, reportLoad_above above]
  · rw [exec_reportLoad, reportLoad_mismatch range mismatch]
  · refine ⟨(reportedLoad site loads).feeders, fun k => ?_, rfl, [], rfl, ?_⟩
    · rw [reportedLoad_feeders]
      cases loads[k.val]? <;> rfl
    · rw [exec_reportLoad, reportLoad_listed range listed]
      rfl

/-! ### READ_BUDGET (R105, R115, section 8.7) -/

theorem effectiveCap_eq (s : State) :
    effectiveCap s = if s.lineState || s.softCurtail then min s.workingCap s.curtailCap else s.workingCap := rfl

theorem siteHeadroom_eq (s : State) :
    siteHeadroom s = if s.load.state = .fresh then effectiveCap s - s.load.site else min s.fallbackCap (effectiveCap s) := by
  unfold siteHeadroom
  cases s.load.state <;> rfl

theorem feederHeadroom_eq (s : State) (k : Fin 4) :
    feederHeadroom s k = if s.load.state = .fresh then s.windows[k].cap - s.load.feeders[k] else s.windows[k].cap := by
  unfold feederHeadroom
  cases s.load.state <;> rfl

/-- The values of the report age, zeros behind presence 0 (R185). -/
def ageValues : Option Nat → List Nat
  | some a => [1, min (a / 16000000) 65535]
  | none => [0, 0]

theorem length_ageValues (age : Option Nat) : (ageValues age).length = 2 := by cases age <;> rfl

theorem read_age (age : Option Nat) : readFields [1, 2] (optPart 2 ageField age) = some (atWidths [1, 2] (ageValues age)) := by
  cases age with
  | none => rfl
  | some a => simp [optPart, ageField, secondsDown, ageValues, readFields_byte, readFields_be16_last]

/-- One field of two bytes for each feeder. -/
theorem read_perFeeder (f : Fin 4 → Nat) :
    readFields [2, 2, 2, 2] ((List.finRange 4).flatMap fun k => be16 (f k))
      = some (atWidths [2, 2, 2, 2] [f 0, f 1, f 2, f 3]) := by
  simp [List.finRange, readFields_be16, readFields_be16_last]

/-- The values of one window. -/
def windowValues (w : Window) : List Nat := [w.base, w.limit, w.cap]

theorem read_windows (windows : Vector Window 4) :
    readFields [1, 1, 2, 1, 1, 2, 1, 1, 2, 1, 1, 2] ((List.finRange 4).flatMap fun k => windowBytes windows[k])
      = some (atWidths [1, 1, 2, 1, 1, 2, 1, 1, 2, 1, 1, 2]
          (windowValues windows[0] ++ windowValues windows[1] ++ windowValues windows[2] ++ windowValues windows[3])) := by
  have bytes : (List.finRange 4).flatMap (fun k => windowBytes windows[k])
      = windowBytes windows[0] ++ (windowBytes windows[1] ++ (windowBytes windows[2] ++ (windowBytes windows[3] ++ []))) := rfl
  rw [bytes]
  simp [windowValues, readFields_windowBytes, read_window]

theorem exec_readBudget (s : State) : exec .readBudget s = .next (answer .ok (budgetBytes s) s) := rfl

/-- The caps of READ_BUDGET with the in-force state. -/
theorem read_caps (s : State) :
    readFields [2, 2, 2, 2, 2, 1]
        (be16 s.ceiling ++ be16 s.workingCap ++ be16 s.curtailCap ++ be16 s.fallbackCap ++ be16 (effectiveCap s)
          ++ [boolByte (inForce s)])
      = some (atWidths [2, 2, 2, 2, 2, 1]
          [s.ceiling, s.workingCap, s.curtailCap, s.fallbackCap, effectiveCap s, (inForce s).toNat]) := by
  simp [readFields_be16, readFields_byte, bool_toNat_mod]

/-- The load record's state, age and site load. -/
theorem read_loadRecord (l : LoadRecord) :
    readFields [1, 1, 2, 2] ([byteOf l.state.code] ++ optPart 2 ageField l.age ++ be16 l.site)
      = some (atWidths [1, 1, 2, 2] ([l.state.code] ++ ageValues l.age ++ [l.site])) := by
  have state : readFields [1] [byteOf l.state.code] = some (atWidths [1] [l.state.code]) := by simp [readFields_byte]
  have site : readFields [2] (be16 l.site) = some (atWidths [2] [l.site]) := readFields_be16_last l.site
  exact readFields_groups (by simp [length_ageValues]) (readFields_groups (by rfl) state (read_age l.age)) site

theorem read_headroom (s : State) :
    readFields [2, 2, 2, 2, 2] (be16 (siteHeadroom s) ++ (List.finRange 4).flatMap fun k => be16 (feederHeadroom s k))
      = some (atWidths [2, 2, 2, 2, 2]
          [siteHeadroom s, feederHeadroom s 0, feederHeadroom s 1, feederHeadroom s 2, feederHeadroom s 3]) :=
  readFields_groups (ws := [2]) (ns := [siteHeadroom s]) rfl (readFields_be16_last _) (read_perFeeder (feederHeadroom s))

/-- The values of READ_BUDGET, group by group. -/
def budgetValues (s : State) : List Nat :=
  [s.ceiling, s.workingCap, s.curtailCap, s.fallbackCap, effectiveCap s, (inForce s).toNat]
    ++ ([s.load.state.code] ++ ageValues s.load.age ++ [s.load.site])
    ++ [s.load.feeders[0], s.load.feeders[1], s.load.feeders[2], s.load.feeders[3]]
    ++ [siteHeadroom s, feederHeadroom s 0, feederHeadroom s 1, feederHeadroom s 2, feederHeadroom s 3]
    ++ (windowValues s.windows[0] ++ windowValues s.windows[1] ++ windowValues s.windows[2] ++ windowValues s.windows[3])

theorem length_budgetValues (s : State) : (budgetValues s).length = 31 := by simp [budgetValues, windowValues, length_ageValues]

theorem answers_readBudget (s : State) :
    Answers .readBudget s s
      ([2, 2, 2, 2, 2, 1] ++ [1, 1, 2, 2] ++ [2, 2, 2, 2] ++ [2, 2, 2, 2, 2] ++ [1, 1, 2, 1, 1, 2, 1, 1, 2, 1, 1, 2])
      (budgetValues s) := by
  have feeders : readFields [2, 2, 2, 2] ((List.finRange 4).flatMap fun k => be16 s.load.feeders[k])
      = some (atWidths [2, 2, 2, 2] [s.load.feeders[0], s.load.feeders[1], s.load.feeders[2], s.load.feeders[3]]) :=
    read_perFeeder fun k => s.load.feeders[k]
  have upToLoad := readFields_groups (by rfl) (read_caps s) (read_loadRecord s.load)
  have upToFeeders := readFields_groups (by simp [length_ageValues]) upToLoad feeders
  have upToHeadroom := readFields_groups (by simp [length_ageValues]) upToFeeders (read_headroom s)
  have whole := readFields_groups (by simp [length_ageValues]) upToHeadroom (read_windows s.windows)
  refine ⟨(length_budgetValues s).symm, budgetBytes s, ?_, exec_readBudget s⟩
  simpa only [budgetBytes, budgetValues, List.append_assoc] using whole

/-- Settles O38: the groups of READ_BUDGET read back one after the other, its headroom figures those of R115. -/
theorem budgetAnswer : Obligations.BudgetAnswer := by
  intro s
  have answer := answers_readBudget s
  rw [budgetValues, siteHeadroom_eq, effectiveCap_eq] at answer
  simp only [feederHeadroom_eq] at answer
  refine ⟨?_, siteHeadroom_eq s, feederHeadroom_eq s⟩
  cases age : s.load.age <;> rw [age] at answer <;> exact answer

end Sys2Proof.SiteBudget
end

section
/-! The bay link's replies (R126, R188): the characters of a window judged in the order of R126. -/

namespace Sys2Proof.BayLink

open Sys2Proof.Machine Sys2Proof.Safety Sys2Proof.Allocation

/-! ### The characters -/

/-- The byte of a character without a framing error. -/
def rxByte : RxChar → Option Byte
  | .byte b => some b
  | .corrupt => none

theorem wholeBytes_of_corrupt {chars : List RxChar} (corrupt : .corrupt ∈ chars) : wholeBytes chars = none := by
  induction chars with
  | nil => cases corrupt
  | cons c rest ih =>
    cases c with
    | corrupt => rfl
    | byte b => simp [wholeBytes, ih (by simpa using corrupt)]

theorem wholeBytes_of_whole {chars : List RxChar} (whole : .corrupt ∉ chars) :
    wholeBytes chars = some (chars.filterMap rxByte) ∧ (chars.filterMap rxByte).length = chars.length := by
  induction chars with
  | nil => exact ⟨rfl, rfl⟩
  | cons c rest ih =>
    cases c with
    | corrupt => simp at whole
    | byte b =>
      obtain ⟨bytes, length⟩ := ih (by simpa using whole)
      simp [wholeBytes, rxByte, bytes, length]

/-! ### The bytes -/

/-- The named codes of the connector are 0 and 1 (R188). -/
theorem connectorOf_none (b : Byte) : connectorOf b = none ↔ 1 < b.toNat := by
  simp only [connectorOf, BitVec.toNat_eq]
  repeat' split
  all_goals simp at *; omega

/-- The named codes of the HVAC state are 0 to 3 (R188). -/
theorem hvacOf_none (b : Byte) : hvacOf b = none ↔ 3 < b.toNat := by
  simp only [hvacOf, BitVec.toNat_eq]
  repeat' split
  all_goals simp at *; omega

/-- The cause of a miss, none for a valid reply. -/
def missCause : ReplyVerdict → Option MissCause
  | .miss cause => some cause
  | .valid _ _ => none

/-- The cases of R126 on 18 bytes, in their order. -/
def teleCases (b : Fin 32) (byteAt : Nat → Byte) (crc : Byte) : List (Prop × Option MissCause) :=
  [(byteAt 17 ≠ crc, some .corrupt), ((byteAt 0).toNat ≠ b.val, some .misaddressed), (byteAt 1 ≠ 0x02, some .corrupt),
   (15 < (byteAt 2).toNat ∨ 1 < (byteAt 3).toNat ∨ 3 < (byteAt 16).toNat, some .corrupt)]

theorem firstOf_judgeTele (b : Fin 32) {bytes : List Byte} (length : bytes.length = 18) :
    FirstOf (teleCases b (fun k => (bytes[k]?).getD 0) (crc8 (bytes.take 17))) none (missCause (judgeTele b bytes)) := by
  match bytes, length with
  | [address, kind, echo, connector, t3, t2, t1, t0, c1, c0, o1, o0, heat, cool, p1, p0, hvac, crc], _ =>
  simp only [judgeTele, apply_ite missCause]
  refine firstOf_ite Iff.rfl fun _ => firstOf_ite Iff.rfl fun _ => firstOf_ite Iff.rfl fun _ => ?_
  split
  · next echo => exact firstOf_hit (.inl echo)
  next range =>
  split
  · next con h connected state =>
    refine firstOf_miss (fun code => ?_) rfl
    rcases code with above | above | above
    · exact range above
    · exact nomatch connected.symm.trans ((connectorOf_none connector).2 above)
    · exact nomatch state.symm.trans ((hvacOf_none hvac).2 above)
  · next unnamed =>
    refine firstOf_hit (.inr ?_)
    cases connected : connectorOf connector with
    | none => exact .inl ((connectorOf_none connector).1 connected)
    | some con =>
      cases state : hvacOf hvac with
      | none => exact .inr ((hvacOf_none hvac).1 state)
      | some h => exact (unnamed con h connected state).elim

/-- Settles O46: the lengths, the framing errors, and then the cases on 18 bytes. -/
theorem replyIsJudgedInOrder : Obligations.ReplyIsJudgedInOrder := by
  intro b chars bytes byteAt
  show FirstOf _ none (missCause (judgeReply b chars))
  simp only [judgeReply, apply_ite missCause]
  refine firstOf_ite List.length_eq_zero_iff fun _ => firstOf_ite Iff.rfl fun short => firstOf_ite Iff.rfl fun long => ?_
  by_cases corrupt : .corrupt ∈ chars
  · rw [wholeBytes_of_corrupt corrupt]
    exact firstOf_hit (.inl corrupt)
  · obtain ⟨whole, length⟩ := wholeBytes_of_whole corrupt
    rw [whole]
    simp only [or_iff_right corrupt]
    exact firstOf_judgeTele b (length.trans (show chars.length = 18 by omega))

/-! ### A reply that is valid (R134) -/

theorem temperature_range (hi lo : Byte) : -400 ≤ temperature hi lo ∧ temperature hi lo ≤ 600 := by
  simp only [temperature, clampInt]
  omega

/-- The telemetry of a valid reply lies in the ranges of R134. -/
theorem telemetrySound_of_valid {b : Fin 32} {chars : List RxChar} {echo : Nat} {t : Telemetry}
    (valid : judgeReply b chars = .valid echo t) : TelemetrySound t := by
  unfold judgeReply judgeTele at valid
  repeat' split at valid
  all_goals cases valid
  exact ⟨temperature_range _ _, temperature_range _ _, Nat.le_of_lt_succ (BitVec.isLt _), Nat.le_of_lt_succ (BitVec.isLt _),
    Nat.min_le_right _ _⟩

/-! ### The close of a reply window (R125) -/

section
variable {s : State} {x : Exchange} {n : Nat} {chars : List RxChar}

theorem windowClose_of_none (idle : s.exchange = none) : windowClose chars s = s := by
  unfold windowClose
  rw [idle]

theorem windowClose_of_miss {cause : MissCause} (polled : s.exchange = some x) (cycle : s.cycle = some n)
    (judged : judgeReply x.bay chars = .miss cause) : windowClose chars s = goOn (miss { s with exchange := none } x.bay) n := by
  simp only [windowClose, polled, cycle, judged]

theorem windowClose_of_valid {echo : Nat} {t : Telemetry} (polled : s.exchange = some x) (cycle : s.cycle = some n)
    (judged : judgeReply x.bay chars = .valid echo t) :
    windowClose chars s = goOn (validArrival { s with exchange := none } x.bay x.seqSent echo t) n := by
  simp only [windowClose, polled, cycle, judged]

end

end Sys2Proof.BayLink
end

section
/-! The bay table (R120 to R146): what each operation makes of a bay record, and that every record keeps its form. -/

namespace Sys2Proof.BayTable

open Sys2Proof.Machine Sys2Proof.Safety Sys2Proof.OrderTable Sys2Proof.Allocation Sys2Proof.Commitment Sys2Proof.BayLink

/-! ### One bay record -/

section
variable {x : Bay}

theorem grantSound_initial : GrantSound Grant.initial := ⟨.inl ⟨rfl, rfl⟩, Nat.zero_le _⟩

theorem baySound_initial : BaySound Bay.initial :=
  ⟨by simp [Bay.initial], Nat.zero_le _, Nat.zero_le _, grantSound_initial, grantSound_initial, by simp [Bay.initial, Grant.initial],
    nofun, nofun, by simp [Bay.initial], nofun⟩

/-- A write of the pending grant, in the form of R128. -/
theorem BaySound.offer (h : BaySound x) {mode : Mode} {steps : Nat} (grant : GrantSound { mode := mode, steps := steps, seq := 0 }) :
    BaySound (x.offer mode steps) := by
  obtain ⟨link, misses, overdraw, pending, rest⟩ := h
  unfold Bay.offer
  split
  · exact ⟨link, misses, overdraw, pending, rest⟩
  · exact ⟨link, misses, overdraw, ⟨grant.1, (nextSeq_range _).2⟩, rest⟩

theorem BaySound.zeroed (h : BaySound x) : BaySound (x.offer .off 0) := BaySound.offer h grantSound_initial

/-- A change of the applied mode leaves the reversal timer, stops it, or starts it with the mode left (R167). -/
theorem reversalAfter_cases (dead : Nat) (before after : Mode) (timer : Option Reversal) :
    reversalAfter dead before after timer = timer ∨ reversalAfter dead before after timer = none
      ∨ (before ≠ .off ∧ reversalAfter dead before after timer = some { mode := before, left := dead * Config.second }) := by
  cases before <;> cases after <;> simp [reversalAfter]

/-- An applied grant with its lapse timer, in the form of R130 to R133. -/
theorem BaySound.apply (h : BaySound x) (dead : Nat) {g : Grant} {lapse : Option Nat} (grant : GrantSound g)
    (runs : lapse.isSome ↔ 0 < g.steps) (most : ∀ n ∈ lapse, n ≤ lapseTime) : BaySound (x.apply dead g lapse) := by
  obtain ⟨link, misses, overdraw, pending, -, -, -, reversal, rest⟩ := h
  refine ⟨link, misses, overdraw, pending, grant, runs, most, ?_, rest⟩
  show ∀ r ∈ reversalAfter dead x.applied.mode g.mode x.reversal, r.mode ≠ .off
  rcases reversalAfter_cases dead x.applied.mode g.mode x.reversal with kept | stopped | ⟨mode, started⟩
  · rwa [kept]
  · rw [stopped]
    exact nofun
  · rw [started]
    rintro _ ⟨⟩
    exact mode

theorem BaySound.drop (h : BaySound x) (dead : Nat) : BaySound (x.drop dead) :=
  BaySound.apply h dead grantSound_initial (by simp [Grant.initial]) nofun

theorem BaySound.echo (h : BaySound x) (dead echo seqSent : Nat) : BaySound (x.echo dead echo seqSent) := by
  have ⟨link, misses, overdraw, pending, applied, _, _, rest⟩ := h
  unfold Bay.echo
  split
  · refine BaySound.apply h dead pending ?_ ?_ <;> unfold confirmedLapse <;> split <;> simp [*]
  split
  · next renewed => exact ⟨link, misses, overdraw, pending, applied, by simp [renewed.2], by simp, rest⟩
  · exact h

theorem enabled_echo (x : Bay) (dead echo seqSent : Nat) : (x.echo dead echo seqSent).enabled = x.enabled := by
  unfold Bay.echo
  repeat' split
  all_goals rfl

theorem overdraw_echo (x : Bay) (dead echo seqSent : Nat) : (x.echo dead echo seqSent).overdraw = x.overdraw := by
  unfold Bay.echo
  repeat' split
  all_goals rfl

/-- The record after a valid arrival (R130, R134). -/
theorem BaySound.arrive (h : BaySound x) (dead now echo seqSent : Nat) {t : Telemetry} (telemetry : TelemetrySound t) :
    BaySound (x.arrive dead now echo seqSent t) := by
  obtain ⟨-, -, overdraw, pending, applied, runs, most, reversal, -, -⟩ := BaySound.echo h dead echo seqSent
  refine ⟨?_, Nat.zero_le _, overdraw, pending, applied, runs, most, reversal, by simp [Bay.arrive], ?_⟩
  · have form : (if x.link = .disabled then LinkState.disabled else .online) = .disabled ↔ x.link = .disabled := by
      split <;> simp [*]
    simp only [Bay.arrive, enabled_echo]
    exact form.trans h.1
  · rintro _ ⟨⟩
    exact telemetry

/-- A miss count of at most 3, with a link state that is DISABLED when it was (R136, R137). -/
theorem BaySound.counted (h : BaySound x) {misses : Nat} {link : LinkState} (most : misses ≤ 3)
    (same : link = .disabled ↔ x.link = .disabled) : BaySound { x with misses := misses, link := link } :=
  ⟨same.trans h.1, most, h.2.2⟩

theorem BaySound.overdrawn (h : BaySound x) (power : Nat) : BaySound { x with overdraw := overdrawAfter x power } := by
  obtain ⟨link, misses, -, rest⟩ := h
  refine ⟨link, misses, ?_, rest⟩
  show overdrawAfter x power ≤ 2
  unfold overdrawAfter
  split
  · exact Nat.min_le_left _ _
  · exact Nat.zero_le _

theorem BaySound.linkReset (h : BaySound x) (dead : Nat) : BaySound (x.linkReset dead) := by
  have dropped := BaySound.drop h dead
  unfold Bay.linkReset
  dsimp only
  split
  · exact dropped
  · next enabled => exact BaySound.counted dropped (Nat.zero_le _) (by simp [enabled])

theorem BaySound.enable (h : BaySound x) (listed : Bool) : BaySound (x.enable listed) := by
  obtain ⟨link, misses, rest⟩ := h
  unfold Bay.enable
  split
  · exact ⟨by simp, Nat.zero_le _, rest⟩
  · exact ⟨by simp, Nat.zero_le _, rest⟩
  · exact ⟨link, misses, rest⟩
  · exact ⟨link, misses, rest⟩

theorem baySound_softReset (x : Bay) : BaySound x.softReset := by
  obtain ⟨-, rest⟩ := baySound_initial
  refine ⟨?_, rest⟩
  cases listed : x.enabled <;> simp [Bay.softReset, listed]

theorem BaySound.elapse (h : BaySound x) : BaySound x.elapse := by
  obtain ⟨link, misses, overdraw, pending, applied, runs, most, reversal, rest⟩ := h
  refine ⟨link, misses, overdraw, pending, applied, by simpa [Bay.elapse, countDown] using runs, fun n mem => ?_, fun r mem => ?_, rest⟩
  · obtain ⟨m, before, rfl⟩ := Option.map_eq_some_iff.1 mem
    exact (Nat.sub_le _ _).trans (most m before)
  · obtain ⟨q, before, rfl⟩ := Option.map_eq_some_iff.1 mem
    exact reversal q before

theorem BaySound.rested (h : BaySound x) : BaySound { x with reversal := none } := by
  obtain ⟨link, misses, overdraw, pending, applied, runs, most, -, rest⟩ := h
  exact ⟨link, misses, overdraw, pending, applied, runs, most, nofun, rest⟩

end

/-! ### Every bay record -/

section
variable {s : State}

theorem baysSound_iff (s : State) : BaysSound s ↔ ∀ b, BaySound (bayAt s b) := Iff.rfl

theorem BaysSound.frame {t : State} (h : BaysSound s) (same : t.bays = s.bays) : BaysSound t := by
  unfold BaysSound
  rw [same]
  exact h

theorem BaysSound.raise (h : BaysSound s) (f : EventFlag) : BaysSound (raise f s) := h

theorem BaysSound.setBay (h : BaysSound s) {b : Fin 32} {x : Bay} (sound : BaySound x) : BaysSound (setBay s b x) := by
  rw [baysSound_iff]
  intro a
  rw [bayAt_setBay]
  split
  · exact sound
  · exact h a

theorem BaysSound.mapBays {f : Fin 32 → Bay → Bay} (sound : ∀ b, BaySound (f b (bayAt s b))) : BaysSound (mapBays f s) := by
  rw [baysSound_iff]
  intro b
  rw [bayAt_mapBays]
  exact sound b

theorem BaysSound.zeroPending (h : BaysSound s) (b : Fin 32) : BaysSound (zeroPending s b) :=
  BaysSound.setBay h (BaySound.zeroed (h b))

theorem BaysSound.promoteHead (h : BaysSound s) (b : Fin 32) : BaysSound (promoteHead s b) := by
  obtain ⟨_, writes⟩ := promoteHead_writes s b
  rw [writes]
  exact h

theorem BaysSound.closeRecord (h : BaysSound s) (i : Fin 48) (kind : OutcomeKind) : BaysSound (closeRecord s i kind) := by
  obtain ⟨_, writes⟩ := closeRecord_writes s i kind
  rw [writes]
  exact h

theorem BaysSound.leaveQueue (h : BaysSound s) (b : Fin 32) (gone : List (Fin 48)) : BaysSound (leaveQueue s b gone) := by
  have left : BaysSound (setQueue s b (queueLeft s b gone)) := h
  by_cases stays : ∀ i, HeadOf s b i → i ∉ gone
  · rw [leaveQueue_of_head_stays stays]
    exact left
  · push Not at stays
    obtain ⟨i, head, mem⟩ := stays
    rw [leaveQueue_of_head_gone head mem]
    exact BaysSound.promoteHead (BaysSound.zeroPending left b) b

theorem BaysSound.closeOrder (h : BaysSound s) (i : Fin 48) (kind : OutcomeKind) : BaysSound (closeOrder s i kind) := by
  unfold Machine.closeOrder
  split
  · exact h
  · exact BaysSound.leaveQueue (BaysSound.closeRecord h i kind) _ _

theorem BaysSound.expire (h : BaysSound s) : BaysSound (expire s) := by
  rw [expire_eq]
  split
  · exact h
  · obtain ⟨_, writes⟩ := closeExpired_writes s
    have written : BaysSound (closeExpired s) := by
      rw [writes]
      exact h
    exact BaysSound.raise (foldl_keeps BaysSound _ (fun _ b hu => BaysSound.leaveQueue hu b _) _ _ written) _

/-- A trip zeroes the pending grant; a cause writes no bay record otherwise (R159, R160). -/
theorem BaysSound.handleCause (h : BaysSound s) (b : Fin 32) (c : Cause) : BaysSound (handleCause b s c) := by
  unfold Machine.handleCause
  repeat' split
  · exact h
  · exact h
  · exact h
  · exact BaysSound.raise (BaysSound.zeroPending (BaysSound.frame h rfl) b) .orderTripped
  · exact h

theorem BaysSound.protectArrival (h : BaysSound s) (b : Fin 32) (t : Telemetry) : BaysSound (protectArrival s b t) :=
  foldl_keeps BaysSound _ (fun _ c hu => BaysSound.handleCause hu b c) _ _ (BaysSound.setBay h (BaySound.overdrawn (h b) _))

theorem BaysSound.accumulate (h : BaysSound s) (b : Fin 32) (power : Nat) (prev : Option Nat) :
    BaysSound (accumulate s b power prev) := by
  obtain ⟨_, writes⟩ := accumulate_writes s b power prev
  rw [writes]
  exact h

theorem BaysSound.testUnplug (h : BaysSound s) (b : Fin 32) (t : Telemetry) : BaysSound (testUnplug s b t) := by
  unfold Machine.testUnplug
  repeat' split
  · exact h
  · exact BaysSound.closeOrder h _ _
  · exact h

theorem BaysSound.validArrival (h : BaysSound s) (b : Fin 32) (seqSent echo : Nat) {t : Telemetry} (telemetry : TelemetrySound t) :
    BaysSound (validArrival s b seqSent echo t) := by
  have recorded : BaysSound (Machine.setBay s b ((bayAt s b).arrive s.tuning.dead s.clock echo seqSent t)) :=
    BaysSound.setBay h (BaySound.arrive (h b) _ _ _ _ telemetry)
  exact BaysSound.testUnplug (BaysSound.accumulate (BaysSound.protectArrival recorded b t) b _ _) b t

theorem BaysSound.miss (h : BaysSound s) (b : Fin 32) : BaysSound (miss s b) := by
  have counted (link : LinkState) (same : link = .disabled ↔ (bayAt s b).link = .disabled) :
      BaysSound (Machine.setBay s b { bayAt s b with misses := min 3 ((bayAt s b).misses + 1), link := link }) :=
    BaysSound.setBay h (BaySound.counted (h b) (Nat.min_le_left _ _) same)
  unfold Machine.miss
  dsimp only
  split
  · exact h
  · exact counted _ Iff.rfl
  all_goals
    next before =>
    split
    · exact BaysSound.handleCause (BaysSound.raise (counted .silent (by simp [before])) _) b .silent
    · exact counted _ Iff.rfl

theorem BaysSound.curtailBay (h : BaysSound s) (b : Fin 32) : BaysSound (curtailBay s b) := by
  unfold Machine.curtailBay
  split
  · have paused : BaysSound (pauseHead s b) := by
      unfold pauseHead
      split
      · exact h
      · exact h
    exact BaysSound.zeroPending paused b
  · exact h

/-- The grants of a publish are those of R91, or OFF/0. -/
theorem BaysSound.publishGrant (h : BaysSound s) {applied : List PassResult}
    (grants : ∀ r ∈ applied, GrantSound { mode := r.mode, steps := r.steps, seq := 0 }) (b : Fin 32) :
    BaysSound (publishGrant applied s b) := by
  unfold Machine.publishGrant settleBay
  repeat' split
  · next r found => exact BaysSound.setBay h (BaySound.offer (h b) (grants r (List.mem_of_find?_eq_some found)))
  · exact BaysSound.zeroPending h b
  · exact h
  · exact BaysSound.zeroPending h b

theorem grantSound_of_result {snap : Snapshot} (ascend : snap.heads.Pairwise fun x y => x.bay < y.bay) {r : PassResult}
    (mem : r ∈ passResults snap) : GrantSound { mode := r.mode, steps := r.steps, seq := 0 } := by
  obtain ⟨ranked, perm, shares⟩ := exists_ranked snap
  refine ⟨?_, Nat.zero_le _⟩
  rcases Ranked.grant_form ⟨perm, shares, ascend⟩ mem with ⟨off, zero⟩ | ⟨least, steps, demand, most, mode, -⟩
  · exact .inl ⟨off, zero⟩
  · refine .inr ⟨fun off : r.mode = .off => ?_, least, steps.trans (demand.trans most)⟩
    rcases mode with ⟨heat, -⟩ | ⟨cool, -⟩
    · rw [off] at heat; cases heat
    · rw [off] at cool; cases cool

theorem BaysSound.published (h : BaysSound s) {p : Pass} (ascend : p.snap.heads.Pairwise fun x y => x.bay < y.bay) :
    BaysSound (published s p) := by
  have granted : BaysSound (allBays.foldl (Machine.publishGrant (applyResults p.snap.now s (passResults p.snap)).2)
      (applyResults p.snap.now s (passResults p.snap)).1) := by
    refine foldl_keeps BaysSound _
      (fun _ b hu => BaysSound.publishGrant hu (fun r mem => grantSound_of_result ascend (mem_of_applied mem)) b) _ _ ?_
    obtain ⟨_, _, writes⟩ := applyResults_writes p.snap.now s (passResults p.snap)
    rw [writes]
    exact h
  unfold Commitment.published
  dsimp only
  split
  · exact granted
  · exact granted

end

end Sys2Proof.BayTable
end

section
/-! The bay link as a whole (R121, R123, R127, R139) and the pass in flight (R77, R78): every step keeps them in their form,
with the bay table. -/

namespace Sys2Proof.BayTable

open Sys2Proof.Machine Sys2Proof.Safety Sys2Proof.OrderTable Sys2Proof.Allocation Sys2Proof.Commitment Sys2Proof.BayLink

/-! ### The link (R123, R127) -/

section
variable {s : State}

/-- A link without a hold in which an ALLSTOP may begin: a cycle in progress has an exchange, or an ALLSTOP being sent or
waiting, before which its walk stops. -/
structure Unheld (s : State) : Prop where
  hold : s.hold = none
  nonempty : s.allstop ≠ some 0
  inCycle : s.exchange.isSome → s.cycle.isSome
  alone : s.sending.isSome → s.exchange = none
  waits : s.cycle.isSome → s.exchange.isSome ∨ s.sending.isSome ∨ s.allstop.isSome

theorem Unheld.linkSound (h : Unheld s) (busy : s.allstop.isSome ∨ s.cycle.isSome → s.exchange.isSome ∨ s.sending.isSome) :
    LinkSound s :=
  ⟨h.inCycle, by simp [h.hold], h.nonempty, by simp [h.hold], fun sending => ⟨h.alone sending, h.hold⟩, busy⟩

/-- An ALLSTOP that waits begins, or waits for an exchange or for the ALLSTOP being sent. -/
theorem Unheld.beginAllstop (h : Unheld s) : LinkSound (beginAllstop s) := by
  have waits := h.waits
  unfold Machine.beginAllstop
  split
  · next none =>
    refine h.linkSound fun busy => ?_
    simpa [none] using waits (busy.resolve_left (by simp [none]))
  next list waiting =>
  split
  · next free =>
    obtain ⟨hold, exchange, -⟩ := (lineFree_iff s).1 free
    exact ⟨by simp [exchange], by simp [hold], nofun, by simp [hold], fun _ => ⟨exchange, hold⟩, fun _ => .inr rfl⟩
  · next taken =>
    refine h.linkSound fun _ => ?_
    rw [lineFree_iff, not_and, not_and_or] at taken
    exact (taken h.hold).imp Option.isSome_iff_ne_none.2 Option.isSome_iff_ne_none.2

/-- A poll opens an exchange on a quiet line. -/
theorem linkSound_beginExchange (b : Fin 32) (hold : s.hold = none) (allstop : s.allstop = none) (sending : s.sending = none) :
    LinkSound (beginExchange s b) := by
  simp [LinkSound, beginExchange, hold, allstop, sending]

theorem linkSound_quiet (hold : s.hold = none) (exchange : s.exchange = none) (allstop : s.allstop = none)
    (sending : s.sending = none) (cycle : s.cycle = none) : LinkSound s := by
  simp [LinkSound, hold, exchange, allstop, sending, cycle]

/-- The walk of a cycle goes on with no exchange open (R123, R124, R127). -/
theorem linkSound_goOn (n : Nat) (hold : s.hold = none) (exchange : s.exchange = none) (nonempty : s.allstop ≠ some 0) :
    LinkSound (goOn s n) := by
  unfold goOn
  split
  · next stops =>
    refine Unheld.beginAllstop ⟨hold, nonempty, by simp, by simp [exchange], fun _ => ?_⟩
    simpa [exchange] using stops
  next clear =>
  obtain ⟨sending, allstop⟩ : s.sending = none ∧ s.allstop = none := by simpa using clear
  split
  · exact linkSound_beginExchange _ hold allstop sending
  split
  · unfold walkFrom
    split
    · exact linkSound_beginExchange _ hold allstop sending
    · exact linkSound_quiet hold exchange allstop sending rfl
  · exact linkSound_quiet hold exchange allstop sending rfl

theorem linkSound_requestAllstop (h : LinkSound s) (list : Word) : LinkSound (requestAllstop list s) := by
  have ⟨inCycle, _, nonempty, _, sendingAlone, _⟩ := h
  unfold requestAllstop
  split
  · exact h
  next listed =>
  split
  · exact h
  next unheld =>
  have hold : s.hold = none := by simpa using unheld
  have joined : some (joinList list s.allstop) ≠ some 0 := by
    cases waiting : s.allstop with
    | none => simpa [joinList] using listed
    | some w =>
      have listed' : ¬list = 0#32 := listed
      simp [joinList, listed']
  by_cases opening : Opening s
  · rw [yieldOpening_opening opening]
    exact Unheld.beginAllstop ⟨hold, joined, by simp, by simp, by simp⟩
  · rw [yieldOpening_other opening]
    exact Unheld.beginAllstop ⟨hold, joined, inCycle, fun sending => (sendingAlone sending).1, by simp⟩

theorem linkSound_cycleExpiry (h : LinkSound s) : LinkSound (cycleExpiry s) := by
  unfold cycleExpiry
  dsimp only
  split
  · exact h
  next begins =>
  obtain ⟨hold, cycle⟩ : s.hold = none ∧ s.cycle = none := by simpa using begins
  obtain ⟨inCycle, -, nonempty, -⟩ := h
  have exchange : s.exchange = none := by simpa [cycle] using inCycle
  have begun : LinkSound (beginCycle { s with cycleTimer := Config.second }) := linkSound_goOn 0 hold exchange nonempty
  simpa [LinkSound, openExchange] using begun

theorem linkSound_sendAllstop (h : LinkSound s) : LinkSound (sendAllstop s) := by
  have ⟨inCycle, inHold, nonempty, _, sendingAlone, busy⟩ := h
  unfold sendAllstop
  split
  · next sending =>
    obtain ⟨exchange, hold⟩ := sendingAlone sending
    dsimp only
    split
    · next idle => exact Unheld.beginAllstop ⟨hold, nonempty, by simp [exchange], by simp, by simp [idle]⟩
    · exact linkSound_goOn _ hold exchange nonempty
  · cases holding : s.hold with
    | none => exact Unheld.beginAllstop ⟨holding, nonempty, inCycle, fun sending => (sendingAlone sending).1,
        fun cycle => (busy (.inr cycle)).imp_right .inl⟩
    | some n =>
      obtain ⟨-, -, nothing⟩ := inHold (by simp [holding])
      simpa [beginAllstop, nothing] using h

theorem linkSound_holdEnd (h : LinkSound s) : LinkSound (holdEnd s) := by
  have ⟨_, inHold, _, _, sendingAlone, _⟩ := h
  unfold holdEnd
  split
  · exact h
  next held =>
  have holding : s.hold.isSome := by simpa [Option.isSome_iff_ne_none] using held
  obtain ⟨cycle, exchange, allstop⟩ := inHold holding
  have sending : s.sending = none := by
    by_contra sent
    obtain ⟨-, free⟩ := sendingAlone (Option.isSome_iff_ne_none.2 sent)
    simp [free] at holding
  dsimp only
  split
  · exact linkSound_goOn 0 rfl exchange (by simp [allstop])
  · exact linkSound_quiet rfl exchange allstop sending cycle

end

/-! ### The bay table, the link and the pass in flight -/

/-- What `BayTableStaysSound` keeps. -/
structure BayTableSound (s : State) : Prop where
  bays : BaysSound s
  link : LinkSound s
  heads : HeadsSound s

/-- The link and the pass of a state and nothing else of it: every other field at its reset value. -/
def linkAndPass (s : State) : State :=
  { State.reset with
    cycle := s.cycle, exchange := s.exchange, allstop := s.allstop, sending := s.sending, hold := s.hold, pass := s.pass }

section
variable {s t : State}

/-- Bay records that are sound, beside the link and the pass of a sound state. -/
theorem BayTableSound.withBays (h : BayTableSound s) (bays : BaysSound t) (same : linkAndPass t = linkAndPass s) : BayTableSound t := by
  have link : LinkSound (linkAndPass s) := h.link
  have heads : HeadsSound (linkAndPass s) := h.heads
  rw [← same] at link heads
  exact ⟨bays, link, heads⟩

theorem BayTableSound.frame (h : BayTableSound s) (bays : t.bays = s.bays) (same : linkAndPass t = linkAndPass s) : BayTableSound t :=
  h.withBays (BaysSound.frame h.bays bays) same

/-- A link that is sound, beside the bay records and the pass of a sound state. -/
theorem BayTableSound.withLink (h : BayTableSound s) (link : LinkSound t) (bays : t.bays = s.bays) (pass : t.pass = s.pass) :
    BayTableSound t :=
  ⟨BaysSound.frame h.bays bays, link, by unfold HeadsSound; rw [pass]; exact h.heads⟩

theorem BayTableSound.answer (h : BayTableSound s) (code : RespCode) (payload : List Byte) : BayTableSound (answer code payload s) :=
  h.frame rfl rfl

theorem BayTableSound.refuse (h : BayTableSound s) (code : RespCode) : BayTableSound (refuse code s) := h.frame rfl rfl

theorem BayTableSound.raise (h : BayTableSound s) (f : EventFlag) : BayTableSound (raise f s) := h.frame rfl rfl

theorem BayTableSound.mapBays (h : BayTableSound s) {f : Fin 32 → Bay → Bay} (sound : ∀ b, BaySound (f b (bayAt s b))) :
    BayTableSound (mapBays f s) :=
  h.withBays (BaysSound.mapBays sound) (by simp [linkAndPass])

theorem BayTableSound.rehead (h : BayTableSound s) (b : Fin 32) (old : Option (Fin 48)) : BayTableSound (rehead s b old) := by
  obtain ⟨_, writes⟩ := rehead_writes s b old
  rw [writes]
  exact h.frame rfl rfl

theorem BayTableSound.consult (h : BayTableSound s) (tag : Tag) : BayTableSound (consult s tag).1 := by
  obtain ⟨_, writes⟩ := consult_writes s tag
  rw [writes]
  exact h.frame rfl rfl

theorem BayTableSound.closeOrder (h : BayTableSound s) (i : Fin 48) (kind : OutcomeKind) : BayTableSound (closeOrder s i kind) := by
  have bays := BaysSound.closeOrder h.bays i kind
  obtain ⟨_, _, _, _, writes⟩ := closeOrder_writes s i kind
  rw [writes] at bays ⊢
  exact h.withBays bays rfl

theorem BayTableSound.expire (h : BayTableSound s) : BayTableSound (expire s) := by
  have bays := BaysSound.expire h.bays
  obtain ⟨_, _, _, _, writes⟩ := expire_writes s
  rw [writes] at bays ⊢
  exact h.withBays bays rfl

/-! ### Passes (R73, R74, R93) -/

theorem BayTableSound.startPass (h : BayTableSound s) : BayTableSound (startPass s) := by
  have started := (startPass_spec s).1
  generalize Machine.startPass s = t at started ⊢
  rw [started]
  refine ⟨h.bays, h.link, fun p flying => ?_⟩
  obtain rfl : { snap := takeSnapshot s, age := 0 } = p := Option.some.inj flying
  exact takeSnapshot_heads_ascend s

theorem BayTableSound.abandon (h : BayTableSound s) (mark : Bool) : BayTableSound { s with pass := none, passMark := mark } :=
  ⟨h.bays, h.link, nofun⟩

theorem BayTableSound.requestPass (h : BayTableSound s) : BayTableSound (requestPass s) := by
  unfold Machine.requestPass
  split
  · exact h.frame rfl rfl
  · exact h.startPass

theorem BayTableSound.endPass (h : BayTableSound s) : BayTableSound (endPass s) := by
  unfold Machine.endPass
  split
  · exact (h.abandon false).startPass
  · exact h.abandon s.passMark

theorem BayTableSound.publishPass (h : BayTableSound s) : BayTableSound (publishPass s) := by
  cases flying : s.pass with
  | none =>
    rw [publishPass_idle flying]
    exact h
  | some p =>
    have bays := BaysSound.published h.bays (h.heads p flying)
    obtain ⟨_, _, _, _, writes⟩ := published_writes (s := s) p
    rw [publishPass_of_pass flying]
    rw [writes] at bays ⊢
    exact BayTableSound.endPass (h.withBays bays rfl)

/-! ### The events of the link (R123 to R142) -/

theorem BayTableSound.requestAllstop (h : BayTableSound s) (list : Word) : BayTableSound (requestAllstop list s) := by
  have link := linkSound_requestAllstop h.link list
  obtain ⟨_, _, _, _, _, _, writes⟩ := requestAllstop_writes list s
  rw [writes] at link ⊢
  exact h.withLink link rfl rfl

theorem goOn_bays_pass (s : State) (n : Nat) : (goOn s n).bays = s.bays ∧ (goOn s n).pass = s.pass := by
  obtain ⟨_, _, _, _, _, _, _, writes⟩ := goOn_writes s n
  rw [writes]
  exact ⟨rfl, rfl⟩

theorem beginAllstop_bays_pass (s : State) : (beginAllstop s).bays = s.bays ∧ (beginAllstop s).pass = s.pass := by
  obtain ⟨_, _, _, writes⟩ := beginAllstop_writes s
  rw [writes]
  exact ⟨rfl, rfl⟩

theorem BayTableSound.cycleExpiry (h : BayTableSound s) : BayTableSound (cycleExpiry s) := by
  have same : (Machine.cycleExpiry s).bays = s.bays ∧ (Machine.cycleExpiry s).pass = s.pass := by
    unfold Machine.cycleExpiry
    dsimp only
    split
    · exact ⟨rfl, rfl⟩
    · exact goOn_bays_pass { s with cycleTimer := Config.second } 0
  exact h.withLink (linkSound_cycleExpiry h.link) same.1 same.2

theorem BayTableSound.sendAllstop (h : BayTableSound s) : BayTableSound (sendAllstop s) := by
  have same : (Machine.sendAllstop s).bays = s.bays ∧ (Machine.sendAllstop s).pass = s.pass := by
    unfold Machine.sendAllstop
    dsimp only
    repeat' split
    · exact beginAllstop_bays_pass { s with sending := none }
    · exact goOn_bays_pass { s with sending := none } _
    · exact beginAllstop_bays_pass s
  exact h.withLink (linkSound_sendAllstop h.link) same.1 same.2

theorem BayTableSound.holdEnd (h : BayTableSound s) : BayTableSound (holdEnd s) := by
  have same : (Machine.holdEnd s).bays = s.bays ∧ (Machine.holdEnd s).pass = s.pass := by
    unfold Machine.holdEnd
    dsimp only
    repeat' split
    · exact ⟨rfl, rfl⟩
    · exact goOn_bays_pass _ 0
    · exact ⟨rfl, rfl⟩
  exact h.withLink (linkSound_holdEnd h.link) same.1 same.2

theorem BayTableSound.beginHold (h : BayTableSound s) : BayTableSound (beginHold s) := by
  have link : LinkSound { s with exchange := none, cycle := none, allstop := none, sending := none, hold := some holdTime } := by
    simp [LinkSound]
  exact BayTableSound.mapBays (h.withLink link rfl rfl) fun b => BaySound.linkReset (h.bays b) _

/-- At the close of a window an exchange, and with it a cycle, is in progress and no hold (R121, R125). -/
theorem BayTableSound.windowClose (h : BayTableSound s) (chars : List RxChar) : BayTableSound (windowClose chars s) := by
  cases polled : s.exchange with
  | none =>
    rw [windowClose_of_none polled]
    exact h
  | some x =>
  have ⟨inCycle, inHold, nonempty, _⟩ := h.link
  obtain ⟨n, cycle⟩ := Option.isSome_iff_exists.1 (inCycle (by simp [polled]))
  have hold : s.hold = none := by
    by_contra held
    obtain ⟨-, closed, -⟩ := inHold (Option.isSome_iff_ne_none.2 held)
    exact nomatch polled.symm.trans closed
  have goesOn {u : State} (bays : BaysSound u) (same : linkAndPass u = linkAndPass { s with exchange := none }) :
      BayTableSound (goOn u n) := by
    obtain ⟨sameBays, samePass⟩ := goOn_bays_pass u n
    have allstop : u.allstop = s.allstop := by simpa only [linkAndPass] using congrArg State.allstop same
    have pass : u.pass = s.pass := by simpa only [linkAndPass] using congrArg State.pass same
    refine ⟨BaysSound.frame bays sameBays, ?_, ?_⟩
    · exact linkSound_goOn n ((congrArg State.hold same).trans hold) (congrArg State.exchange same) (allstop ▸ nonempty)
    · unfold HeadsSound
      rw [samePass, pass]
      exact h.heads
  cases judged : judgeReply x.bay chars with
  | miss cause =>
    have bays := BaysSound.miss (s := { s with exchange := none }) h.bays x.bay
    rw [windowClose_of_miss polled cycle judged]
    obtain ⟨_, _, _, writes⟩ := miss_writes { s with exchange := none } x.bay
    rw [writes] at bays ⊢
    exact goesOn bays rfl
  | valid echo t =>
    have bays := BaysSound.validArrival (s := { s with exchange := none }) h.bays x.bay x.seqSent echo (telemetrySound_of_valid judged)
    rw [windowClose_of_valid polled cycle judged]
    obtain ⟨_, _, _, _, writes⟩ := validArrival_writes { s with exchange := none } x.bay x.seqSent echo t
    rw [writes] at bays ⊢
    exact goesOn bays rfl

/-! ### Curtailment (R148 to R153) -/

theorem BayTableSound.curtailArrival (h : BayTableSound s) : BayTableSound (curtailArrival s) := by
  have paused : BayTableSound (allBays.foldl Machine.curtailBay s) := by
    have bays : BaysSound (allBays.foldl Machine.curtailBay s) :=
      foldl_keeps BaysSound _ (fun _ b hu => BaysSound.curtailBay hu b) _ _ h.bays
    obtain ⟨_, _, writes⟩ := curtailBays_writes allBays s
    rw [writes] at bays ⊢
    exact h.withBays bays rfl
  have requested := paused.requestAllstop (allstopList s)
  refine BayTableSound.raise ?_ _
  unfold arrivalPass
  split
  · exact (requested.abandon false).startPass
  · exact requested.startPass

theorem BayTableSound.judgeCurtailment (h : BayTableSound s) (before : Bool) : BayTableSound (judgeCurtailment before s) := by
  unfold Machine.judgeCurtailment
  repeat' split
  · exact h
  · exact h.curtailArrival
  · exact h.requestPass.raise _

theorem BayTableSound.curtLineChange (h : BayTableSound s) (level : Bool) : BayTableSound (curtLineChange level s) := by
  have filtered : BayTableSound { s with curt := s.curt.settle level, lineState := level } := h.frame rfl rfl
  rw [curtLineChange_eq]
  split
  · exact h.frame rfl rfl
  · exact filtered.judgeCurtailment _

theorem BayTableSound.sampleLine (h : BayTableSound s) : BayTableSound (sampleLine s) := by
  have sampled (level : Bool) : BayTableSound { s with lineState := level } := h.frame rfl rfl
  unfold Machine.sampleLine
  split
  · exact (sampled true).curtailArrival
  · exact sampled false

/-! ### The clock, lapse and reversal timers (R132, R167, R190) -/

theorem BayTableSound.clockAdvance (h : BayTableSound s) : BayTableSound (clockAdvance s) := by
  have advanced (clock : Nat) : BayTableSound { s with clock := clock, phase := 0 } := h.frame rfl rfl
  unfold Machine.clockAdvance
  split
  · exact h.frame rfl rfl
  · exact (advanced _).expire

theorem BayTableSound.setBay (h : BayTableSound s) {b : Fin 32} {x : Bay} (sound : BaySound x) : BayTableSound (setBay s b x) :=
  h.withBays (BaysSound.setBay h.bays sound) rfl

theorem BayTableSound.lapseBay (h : BayTableSound s) (b : Fin 32) : BayTableSound (lapseBay b s) := by
  unfold Machine.lapseBay
  split
  · exact h.setBay (BaySound.drop (h.bays b) _)
  · exact h

theorem BayTableSound.reversalExpiry (h : BayTableSound s) (b : Fin 32) : BayTableSound (reversalExpiry b s) :=
  h.setBay (BaySound.rested (h.bays b))

theorem BayTableSound.loadStaleTransition (h : BayTableSound s) : BayTableSound (loadStaleTransition s) := by
  unfold Machine.loadStaleTransition
  split
  · exact h
  · exact h.frame rfl rfl

/-! ### The order commands -/

theorem BayTableSound.openOrder (h : BayTableSound s) (bay : Byte) (tag departure : Word) (target : Half)
    (band priority options : Byte) : BayTableSound (openOrder bay tag departure target band priority options s) := by
  have created (i : Fin 48) (o : Order) : BayTableSound (createOrder s i o) := by
    refine BayTableSound.rehead ?_ _ _
    exact (h.consult o.tag).frame rfl rfl
  unfold Machine.openOrder
  repeat' split
  · exact h.refuse _
  · exact h.refuse _
  · exact h.refuse _
  · exact h.refuse _
  · exact (created _ _).answer _ _
  · exact h.refuse _

/-- AMEND consults the table for a new tag only. -/
theorem BayTableSound.applyAmend (h : BayTableSound s) (i : Fin 48) (o : Order) (c : Changes) : BayTableSound (applyAmend s i o c) := by
  have tagged : BayTableSound (amendWritten s i o (amendedOrder o c)) := by
    have written : BayTableSound (putOrder s i (amendedOrder o c)) := h.frame rfl rfl
    unfold amendWritten
    split
    · exact (written.consult (amendedOrder o c).tag).frame rfl rfl
    · exact written
  rw [applyAmend_eq]
  split
  · refine BayTableSound.rehead ?_ _ _
    exact tagged.frame rfl rfl
  · exact tagged

theorem BayTableSound.amendOrder (h : BayTableSound s) (handle : WireHandle) (force changes : Byte) (departure : Word) (target : Half)
    (band priority : Byte) (tag : Word) : BayTableSound (amendOrder handle force changes departure target band priority tag s) := by
  have amended (i : Fin 48) (o : Order) :
      BayTableSound (Machine.answer .ok [] (Machine.applyAmend s i o (changesOf force changes departure target band priority tag))) :=
    (h.applyAmend i o _).answer _ _
  unfold Machine.amendOrder
  dsimp only
  repeat' split
  · exact h.refuse _
  · exact h.refuse _
  · exact h.refuse _
  · exact h.refuse _
  · exact h.refuse _
  · exact amended _ _
  · exact h.refuse _
  · exact h.refuse _
  · exact amended _ _

theorem BayTableSound.closeCommand (h : BayTableSound s) (handle : WireHandle) (force : Byte) :
    BayTableSound (closeCommand handle force s) := by
  have unlocked (i : Fin 48) (o : Order) : BayTableSound (putOrder s i o) := h.frame rfl rfl
  unfold Machine.closeCommand
  repeat' split
  · exact h.refuse _
  · exact h.refuse _
  · exact h.refuse _
  · exact ((unlocked _ _).closeOrder _ _).answer _ _

theorem BayTableSound.rearmOrder (h : BayTableSound s) (handle : WireHandle) : BayTableSound (rearmOrder handle s) := by
  have planned (i : Fin 48) (o : Order) : BayTableSound (putOrder s i o) := h.frame rfl rfl
  unfold Machine.rearmOrder
  repeat' split
  · exact h.refuse _
  · exact h.refuse _
  · exact h.refuse _
  · exact (planned _ _).requestPass.answer _ _

theorem BayTableSound.profilePreset (h : BayTableSound s) (tag : Word) (kc u pin : Byte) :
    BayTableSound (profilePreset tag kc u pin s) := by
  unfold Machine.profilePreset
  repeat' split
  · exact h.refuse _
  · exact h.frame rfl rfl
  · exact h.refuse _
  · next room =>
    obtain ⟨_, rfl⟩ := makeRoom_writes room
    exact h.frame rfl rfl

theorem BayTableSound.setTuning (h : BayTableSound s) (t : Tuning) : BayTableSound (setTuning t s) := by
  have written : BayTableSound { s with tuning := t } := h.frame rfl rfl
  refine BayTableSound.answer ?_ _ _
  split
  · exact written.loadStaleTransition
  · exact written

/-! ### The resets (R141, R146, R147) -/

/-- A hold on a quiet link without a pass: the state of a reset. -/
theorem bayTableSound_held (bays : BaysSound s) (hold : s.hold = some holdTime) (exchange : s.exchange = none)
    (cycle : s.cycle = none) (allstop : s.allstop = none) (sending : s.sending = none) (pass : s.pass = none) : BayTableSound s :=
  ⟨bays, by simp [LinkSound, hold, exchange, cycle, allstop, sending], by simp [HeadsSound, pass]⟩

theorem baysSound_reset : BaysSound State.reset := fun b => by
  simpa [State.reset] using baySound_initial

theorem bayTableSound_powerOnReset (curt : Bool) (s : State) : BayTableSound (powerOnReset curt s) := by
  refine BayTableSound.sampleLine ?_
  exact bayTableSound_held baysSound_reset rfl rfl rfl rfl rfl rfl

theorem bayTableSound_pinReset (curt : Bool) (s : State) : BayTableSound (pinReset curt s) := by
  refine BayTableSound.sampleLine ?_
  exact bayTableSound_held baysSound_reset rfl rfl rfl rfl rfl rfl

theorem bayTableSound_softReset (s : State) : BayTableSound (softReset s) := by
  unfold softReset
  refine BayTableSound.sampleLine (bayTableSound_held (BaysSound.mapBays fun b => baySound_softReset _) ?_ ?_ ?_ ?_ ?_ ?_)
  all_goals simp

/-! ### Every command, every event, every step -/

theorem BayTableSound.runCommand (h : BayTableSound s) {i : Instr} {t : State} (run : runCommand i s = .next t) : BayTableSound t := by
  cases i with
  | setClock c =>
    cases run
    have set : BayTableSound { s with clock := c.toNat, phase := 0 } := h.frame rfl rfl
    exact set.expire.answer _ _
  | setTuning p d l st sel band => cases run; exact h.setTuning _
  | softReset => cases run; exact bayTableSound_softReset s
  | openOrder => cases run; exact h.openOrder ..
  | amend => cases run; exact h.amendOrder ..
  | close => cases run; exact h.closeCommand ..
  | rearm => cases run; exact h.rearmOrder ..
  | profilePreset => cases run; exact h.profilePreset ..
  | linkReset => cases run; exact h.beginHold.answer _ _
  | enableBays list => cases run; exact (h.mapBays fun b => BaySound.enable (h.bays b) _).answer _ _
  | allocateNow => cases run; exact h.requestPass.answer _ _
  | curtail v =>
    cases run
    have written : BayTableSound { s with softCurtail := flagByte v } := h.frame rfl rfl
    exact (written.judgeCurtailment _).answer _ _
  | lock | unlock | retire | lookup | findByBay | findByTag | findByState | profileRead | profileDrop | setCeiling | setFeeder
  | reportLoad | readBay =>
    cases run
    simp only [setLocked, retireOrder, lookupOrder, findByBay, findByTag, findByState, profileRead, profileDrop, setCeiling, setFeeder,
      reportLoad, readBay]
    repeat' split
    all_goals exact h.frame rfl rfl
  | nop | status | clearStatus | setAttnMask | readClock | setWorkingCap | setCurtailCap | setFallbackCap | readBudget =>
    cases run
    exact h.frame rfl rfl
  | frameError | shortTransfer | powerOnReset | pinReset | curtLineChange | allstop | clockAdvance | periodTimerExpiry | publish
  | cycleTimerExpiry | replyWindowClose | linkResetHoldEnd | lapse | reversalTimerExpiry | loadStaleTransition =>
    cases run
    exact h

theorem BayTableSound.execFrameError (h : BayTableSound s) {bytes : List Byte} {t : State} (run : execFrameError bytes s = .next t) :
    BayTableSound t := by
  unfold Machine.execFrameError at run
  split at run
  · cases run; exact h
  · cases run; exact h.refuse _
  · exact h.runCommand run

theorem BayTableSound.periodExpiry (h : BayTableSound s) : BayTableSound (periodExpiry s) := by
  have expired : BayTableSound { s with periodTimer := 0 } := h.frame rfl rfl
  exact expired.requestPass

theorem BayTableSound.takeEvent (h : BayTableSound s) (e : TimedEvent) : BayTableSound (takeEvent s e) := by
  cases e with
  | clock => exact h.clockAdvance
  | period => exact h.periodExpiry
  | cycle => exact h.cycleExpiry
  | hold => exact h.holdEnd
  | window => exact h.windowClose []
  | publish => exact h.publishPass
  | loadStale => exact h.loadStaleTransition
  | allstop => exact h.sendAllstop
  | curt => exact h.curtLineChange _
  | lapse b => exact h.lapseBay b
  | reversal b => exact h.reversalExpiry b

theorem BayTableSound.exec (h : BayTableSound s) {i : Instr} {t : State} (run : exec i s = .next t) : BayTableSound t := by
  have command (same : Machine.exec i s = Machine.runCommand i s) : BayTableSound t := h.runCommand (same.symm.trans run)
  have event (e : TimedEvent) (same : Machine.exec i s = .next (Machine.takeEvent s e)) : BayTableSound t := by
    rw [same] at run
    cases run
    exact h.takeEvent e
  cases i with
  | frameError bytes => exact h.execFrameError run
  | shortTransfer => cases run; exact h
  | powerOnReset curt => cases run; exact bayTableSound_powerOnReset curt s
  | pinReset curt => cases run; exact bayTableSound_pinReset curt s
  | curtLineChange level => cases run; exact h.curtLineChange level
  | replyWindowClose chars => cases run; exact h.windowClose chars
  | allstop => exact event .allstop rfl
  | clockAdvance => exact event .clock rfl
  | periodTimerExpiry => exact event .period rfl
  | publish => exact event .publish rfl
  | cycleTimerExpiry => exact event .cycle rfl
  | linkResetHoldEnd => exact event .hold rfl
  | lapse b => exact event (.lapse b) rfl
  | reversalTimerExpiry b => exact event (.reversal b) rfl
  | loadStaleTransition => exact event .loadStale rfl
  | nop | status | clearStatus | setAttnMask | readClock | setClock | setTuning | softReset | openOrder | amend | lock | unlock
  | close | retire | lookup | findByBay | findByTag | findByState | profileRead | profilePreset | profileDrop | setCeiling
  | setWorkingCap | setCurtailCap | setFallbackCap | setFeeder | reportLoad | readBudget | enableBays | linkReset | readBay
  | rearm | curtail | allocateNow => exact command rfl

/-- Time moves the timers and the age of a pass in flight; what runs goes on running and what stands stands. -/
theorem BayTableSound.elapse (h : BayTableSound s) : BayTableSound (elapse s) := by
  obtain ⟨inCycle, inHold, nonempty, most, sendingAlone, busy⟩ := h.link
  unfold Machine.elapse
  refine BayTableSound.mapBays ?_ fun b => BaySound.elapse (h.bays b)
  refine ⟨BaysSound.frame h.bays rfl, ?_, fun p flying => ?_⟩
  · refine ⟨by simpa using inCycle, by simpa [countDown] using inHold, nonempty, fun n counting => ?_,
      by simpa [countDown] using sendingAlone, by simpa using busy⟩
    obtain ⟨m, before, rfl⟩ := Option.map_eq_some_iff.1 counting
    exact (Nat.sub_le _ _).trans (most m before)
  · obtain ⟨q, before, rfl⟩ := Option.map_eq_some_iff.1 flying
    exact h.heads q before

theorem BayTableSound.tick (h : BayTableSound s) : BayTableSound (tick s) := by
  unfold Machine.tick
  split
  · exact h.frame rfl rfl
  · unfold passTime
    have indexed (k : Nat) : BayTableSound { Machine.elapse s with freeIndex := k } := h.elapse.frame rfl rfl
    refine foldl_keeps BayTableSound _ (fun u e hu => ?_) _ _ (indexed _)
    split
    · exact hu.takeEvent e
    · exact hu

theorem BayTableSound.step (h : BayTableSound s) {t : State} (run : step s = .next t) : BayTableSound t := by
  unfold Machine.step at run
  split at run
  · cases run; exact h.tick
  · next c rest _ =>
    have taken : BayTableSound { s with pending := rest } := h.frame rfl rfl
    exact taken.exec run

end

/-- Settles O56: `BayTableSound` is kept by every step. -/
theorem bayTableStaysSound : Obligations.BayTableStaysSound := by
  intro s t bays link heads run
  obtain ⟨bays, link, heads⟩ := BayTableSound.step ⟨bays, link, heads⟩ run
  exact ⟨bays, link, heads⟩

end Sys2Proof.BayTable
end

section
/-! The commands and timers of the bay table (R128, R132, R133, R139, R143, R145, R167): what each makes of the records and of
the link, and what READ_BAY answers. -/

namespace Sys2Proof.BayLink

open Sys2Proof.Machine Sys2Proof.Safety Sys2Proof.OrderTable

/-! ### Pending grants (R128) -/

theorem offer_same {x : Bay} {mode : Mode} {steps : Nat} (same : x.pending.mode = mode ∧ x.pending.steps = steps) :
    x.offer mode steps = x := if_pos same

theorem offer_other {x : Bay} {mode : Mode} {steps : Nat} (other : ¬(x.pending.mode = mode ∧ x.pending.steps = steps)) :
    x.offer mode steps = { x with pending := { mode := mode, steps := steps, seq := nextSeq x.pending.seq } } := if_neg other

/-- The next sequence of a sequence in range, as R128 words it. -/
theorem nextSeq_eq {n : Nat} (range : n ≤ 15) : nextSeq n = if n = 0 ∨ n = 15 then 1 else n + 1 := by
  unfold nextSeq
  split
  · rw [if_neg (by omega)]
  · rw [if_pos (by omega)]

/-- Settles O34: an offer of the pending value, and one of another. -/
theorem pendingGrantWrites : Obligations.PendingGrantWrites := by
  intro x mode steps range
  refine ⟨fun sameMode sameSteps => offer_same ⟨sameMode, sameSteps⟩, fun other => ?_, ?_⟩
  · exact ⟨_, offer_other (not_and_or.2 other), nextSeq_eq range⟩
  · rw [offer_other (by omega)]
    exact nextSeq_range x.pending.seq

/-! ### LINK_RESET (R139) -/

/-- The applied grant gone (R132, R139): every other field but the reversal timer is kept. -/
theorem drop_eq (x : Bay) (dead : Nat) :
    x.drop dead = { x with applied := { mode := .off, steps := 0, seq := 0 }, lapse := none, reversal := (x.drop dead).reversal } := rfl

/-- A change of the link state and the miss count leaves what R167 speaks of. -/
theorem restAfter_linkReset (x : Bay) (dead : Nat) : RestAfter dead x (x.linkReset dead) := by
  have dropped : RestAfter dead x (x.drop dead) := apply_rest x dead _ _
  unfold Bay.linkReset
  dsimp only
  split
  · exact dropped
  · exact dropped

theorem linkReset_eq (x : Bay) (dead : Nat) :
    x.linkReset dead = { x with
      applied := { mode := .off, steps := 0, seq := 0 }
      lapse := none
      reversal := (x.linkReset dead).reversal
      link := if x.link = .disabled then .disabled else .unseen
      misses := if x.link = .disabled then x.misses else 0 } := by
  have link : (x.drop dead).link = x.link := rfl
  unfold Bay.linkReset
  dsimp only
  split
  · next disabled =>
    rw [link] at disabled
    rw [if_pos disabled, if_pos disabled, ← disabled]
    rfl
  · next enabled =>
    rw [link] at enabled
    rw [if_neg enabled, if_neg enabled]
    rfl

/-- A command answered OK without a payload. -/
theorem answers_empty {c : Instr} {s t : State} (run : exec c s = .next (answer .ok [] t)) : Answers c s t [] [] :=
  ⟨rfl, [], rfl, run⟩

/-- Settles O40. -/
theorem linkResetBeginsHold : Obligations.LinkResetBeginsHold := by
  intro s
  refine ⟨(beginHold s).bays, answers_empty rfl, fun b => ?_⟩
  have reset : (beginHold s).bays[b] = s.bays[b].linkReset s.tuning.dead := by simp [beginHold, mapBays]
  rw [reset]
  exact ⟨restAfter_linkReset _ _, linkReset_eq _ _⟩

/-! ### ENABLE_BAYS (R143) -/

/-- Settles O39: the three cases of `Bay.enable`. -/
theorem enableBaysSetsTheList : Obligations.EnableBaysSetsTheList := by
  intro list s
  refine ⟨(mapBays (fun b x => x.enable (list.getLsbD b.val)) s).bays, answers_empty rfl, fun b => ?_⟩
  have enabled : (mapBays (fun b x => x.enable (list.getLsbD b.val)) s).bays[b] = s.bays[b].enable (list.getLsbD b.val) := by
    simp [mapBays]
  rw [enabled]
  refine ⟨fun listed was => ?_, fun listed was => ?_, fun same => ?_⟩
  · simp only [Bay.enable, listed, was]
  · simp only [Bay.enable, listed, was]
  · rw [same]
    cases was : s.bays[b].enabled <;> simp only [Bay.enable, was]

/-! ### Lapse and reversal timers (R132, R167) -/

theorem lapseBay_of_stopped {b : Fin 32} {s : State} (stopped : (bayAt s b).lapse = none) : lapseBay b s = s := by
  simp [lapseBay, stopped]

theorem lapseBay_of_running {b : Fin 32} {s : State} (running : (bayAt s b).lapse ≠ none) :
    lapseBay b s = setBay s b ((bayAt s b).drop s.tuning.dead) := if_pos (Option.isSome_iff_ne_none.2 running)

theorem exec_lapse (b : Fin 32) (s : State) : exec (.lapse b) s = .next (lapseBay b s) := rfl

/-- Settles O50: a running lapse timer drops the applied grant. -/
theorem lapseAndReversalExpiry : Obligations.LapseAndReversalExpiry := by
  intro b s
  refine ⟨fun stopped => ?_, fun running => ⟨(bayAt s b).drop s.tuning.dead, ?_, apply_rest _ _ _ _, drop_eq _ _⟩, rfl⟩
  · rw [exec_lapse, lapseBay_of_stopped stopped]
  · rw [exec_lapse, lapseBay_of_running running]

/-! ### READ_BAY (R145, section 8.7) -/

theorem exec_readBay (bay : Byte) (s : State) : exec (.readBay bay) s = .next (readBay bay s) := rfl

/-- Whole seconds, rounded up (R145). -/
theorem secondsUp_eq (cycles : Nat) : secondsUp cycles = (cycles + 15999999) / 16000000 := by
  unfold secondsUp ceilDiv Config.second
  omega

/-- The value of a timer, 0 for a stopped one. -/
def timerValue : Option Nat → Nat
  | some n => (n + 15999999) / 16000000
  | none => 0

theorem timerSeconds_eq (timer : Option Nat) : timerSeconds timer = timerValue timer := by
  cases timer with
  | none => rfl
  | some n => exact secondsUp_eq n

/-- The values of a stamp, zeros behind presence 0 (R185). -/
def stampValues : Option Nat → List Nat
  | some n => [1, n]
  | none => [0, 0]

/-- The values of the telemetry in READ_BAY. -/
def teleValues : Option Telemetry → List Nat
  | some t => [1, t.connector.code, t.tag.toNat, twos 16 t.cabin, twos 16 t.outdoor, t.heatCap, t.coolCap, t.power, t.hvac.code]
  | none => [0, 0, 0, 0, 0, 0, 0, 0, 0]

/-- The values of a reversal timer: remembered mode and seconds left. -/
def reversalValues : Option Reversal → List Nat
  | some r => [r.mode.code, (r.left + 15999999) / 16000000]
  | none => [0, 0]

theorem length_stampValues (x : Option Nat) : (stampValues x).length = 2 := by cases x <;> rfl
theorem length_teleValues (x : Option Telemetry) : (teleValues x).length = 9 := by cases x <;> rfl
theorem length_reversalValues (x : Option Reversal) : (reversalValues x).length = 2 := by cases x <;> rfl

theorem read_stamp (x : Option Nat) : readFields [1, 4] (optPart 4 be32 x) = some (atWidths [1, 4] (stampValues x)) := by
  cases x with
  | none => rfl
  | some n => simp [optPart, stampValues, readFields_byte, readFields_be32_last]

theorem read_tele (x : Option Telemetry) :
    readFields [1, 1, 4, 2, 2, 1, 1, 2, 1] (optPart 14 teleBytes x)
      = some (atWidths [1, 1, 4, 2, 2, 1, 1, 2, 1] (teleValues x)) := by
  cases x with
  | none => rfl
  | some t =>
    simp [optPart, teleBytes, teleValues, readFields_byte, readFields_bytes32, readFields_beInt16, readFields_be16, toNat_mod_word]

theorem read_reversal (x : Option Reversal) : readFields [1, 2] (reversalBytes x) = some (atWidths [1, 2] (reversalValues x)) := by
  cases x with
  | none => rfl
  | some r => simp [reversalBytes, reversalValues, readFields_byte, readFields_be16_last, secondsUp_eq]

theorem read_grant (g : Grant) : readFields [1, 1, 1] (grantFields g) = some (atWidths [1, 1, 1] [g.mode.code, g.steps, g.seq]) := by
  simp [grantFields, readFields_byte]

theorem read_timer (timer : Option Nat) :
    readFields [1] [byteOf (timerSeconds timer)] = some (atWidths [1] [timerValue timer]) := by
  simp [readFields_byte, timerSeconds_eq]

/-- The lapse timer, the overdraw count and the reversal timer. -/
theorem read_timers (x : Bay) :
    readFields ([1] ++ [1] ++ [1, 2]) ([byteOf (timerSeconds x.lapse)] ++ [byteOf x.overdraw] ++ reversalBytes x.reversal)
      = some (atWidths ([1] ++ [1] ++ [1, 2]) ([timerValue x.lapse] ++ [x.overdraw] ++ reversalValues x.reversal)) :=
  readFields_groups rfl (readFields_groups rfl (read_timer x.lapse) (by simp [readFields_byte])) (read_reversal x.reversal)

/-- The values of READ_BAY, group by group. -/
def bayValues (s : State) (x : Bay) : List Nat :=
  [x.enabled.toNat, x.link.code, x.misses] ++ stampValues x.stamp ++ teleValues x.tele
    ++ [x.pending.mode.code, x.pending.steps, x.pending.seq] ++ [x.applied.mode.code, x.applied.steps, x.applied.seq]
    ++ [timerValue x.lapse] ++ [x.overdraw] ++ reversalValues x.reversal ++ [timerValue s.hold]

theorem length_bayValues (s : State) (x : Bay) : (bayValues s x).length = 25 := by
  simp [bayValues, length_stampValues, length_teleValues, length_reversalValues]

theorem read_bay (s : State) (x : Bay) :
    readFields ([1, 1, 1] ++ [1, 4] ++ [1, 1, 4, 2, 2, 1, 1, 2, 1] ++ [1, 1, 1] ++ [1, 1, 1] ++ [1, 1, 1, 2, 1]) (bayBytes s x)
      = some (atWidths ([1, 1, 1] ++ [1, 4] ++ [1, 1, 4, 2, 2, 1, 1, 2, 1] ++ [1, 1, 1] ++ [1, 1, 1] ++ [1, 1, 1, 2, 1])
          (bayValues s x)) := by
  have linkFields : readFields [1, 1, 1] [boolByte x.enabled, byteOf x.link.code, byteOf x.misses]
      = some (atWidths [1, 1, 1] [x.enabled.toNat, x.link.code, x.misses]) := by
    simp [readFields_byte, bool_toNat_mod]
  have upToStamp := readFields_groups (by rfl) linkFields (read_stamp x.stamp)
  have upToTele := readFields_groups (by simp [length_stampValues]) upToStamp (read_tele x.tele)
  have upToPending := readFields_groups (by simp [length_stampValues, length_teleValues]) upToTele (read_grant x.pending)
  have upToApplied := readFields_groups (by simp [length_stampValues, length_teleValues]) upToPending (read_grant x.applied)
  have upToReversal := readFields_groups (by simp [length_stampValues, length_teleValues]) upToApplied (read_timers x)
  have whole := readFields_groups (by simp [length_stampValues, length_teleValues, length_reversalValues]) upToReversal
    (read_timer s.hold)
  simpa only [bayBytes, bayValues, List.append_assoc, List.cons_append, List.nil_append] using whole

/-- Settles O42: the groups of READ_BAY read back one after the other. -/
theorem bayAnswer : Obligations.BayAnswer := by
  intro bay s
  refine ⟨fun above => ?_, fun b named => ⟨(length_bayValues s s.bays[b]).symm, _, read_bay s s.bays[b], ?_⟩⟩
  · rw [exec_readBay, readBay, (bayOfByte_none bay).2 above]
  · rw [exec_readBay, readBay, (bayOfByte_iff bay b).2 named.symm]
    rfl

end Sys2Proof.BayLink
end

section
/-! The line of the bay link (R117, R186) and the poll cycle (R123, R127, R142): what BL_DE and BL_TX show of a frame, and how a
cycle, a hold's end and an ALLSTOP begin. -/

namespace Sys2Proof.BayLink

open Sys2Proof.Machine Sys2Proof.Safety

/-! ### The bits of a frame (R186) -/

theorem length_charBits (b : Byte) : (charBits b).length = 10 := by simp [charBits, bitsLsb]

theorem length_frameBits (frame : List Byte) : (frameBits frame).length = 10 * frame.length := by
  induction frame with
  | nil => rfl
  | cons b rest ih =>
    rw [frameBits, List.flatMap_cons, List.length_append, length_charBits, ← frameBits, ih, List.length_cons]
    omega

/-- Bit `k` of character `m`. -/
theorem getElem?_frameBits {frame : List Byte} {m : Nat} {b : Byte} (listed : frame[m]? = some b) {k : Nat} (inChar : k < 10) :
    (frameBits frame)[10 * m + k]? = (charBits b)[k]? := by
  induction frame generalizing m with
  | nil => simp at listed
  | cons a rest ih =>
    rw [frameBits, List.flatMap_cons, ← frameBits]
    cases m with
    | zero =>
      obtain rfl : a = b := by simpa using listed
      rw [List.getElem?_append_left (by rw [length_charBits]; omega), Nat.mul_zero, Nat.zero_add]
    | succ m =>
      rw [List.getElem?_append_right (by rw [length_charBits]; omega), length_charBits,
        show 10 * (m + 1) + k - 10 = 10 * m + k by omega]
      exact ih (by simpa using listed)

theorem charBits_start (b : Byte) : (charBits b)[0]? = some false := rfl

theorem charBits_data (b : Byte) {j : Nat} (inByte : j < 8) : (charBits b)[1 + j]? = some (b.getLsbD j) := by
  rw [charBits, List.cons_append, Nat.add_comm, List.getElem?_cons_succ, List.getElem?_append_left (by simpa [bitsLsb] using inByte)]
  simp [bitsLsb, inByte]

theorem charBits_stop (b : Byte) : (charBits b)[9]? = some true := by simp [charBits, bitsLsb]

theorem frameLevel_of_bit {frame : List Byte} {age : Nat} {level : Bool} (bit : (frameBits frame)[age / 64]? = some level) :
    frameLevel frame age = { de := true, tx := level } := by
  unfold frameLevel
  rw [show age / bitTime = age / 64 from rfl, bit]

/-- A frame is on the line bit by bit, and the driver is off after it (R117, R186). -/
theorem showsFrame_frameLevel (frame : List Byte) (age : Nat) : ShowsFrame frame (age / 64) (frameLevel frame age) := by
  refine ⟨fun sent => ?_, fun m b listed => ⟨fun start => ?_, fun j inByte data => ?_, fun stop => ?_⟩⟩
  · have none : (frameBits frame)[age / bitTime]? = none := List.getElem?_eq_none (by rw [length_frameBits]; exact sent)
    unfold frameLevel
    rw [none]
    rfl
  · refine frameLevel_of_bit ?_
    rw [start]
    exact getElem?_frameBits (k := 0) listed (by omega)
  · refine frameLevel_of_bit ?_
    rw [data, Nat.add_assoc, getElem?_frameBits listed (by omega)]
    exact charBits_data b inByte
  · refine frameLevel_of_bit ?_
    rw [stop, getElem?_frameBits listed (by omega)]
    exact charBits_stop b

/-! ### The levels of a state (R117, R139, R141) -/

section
variable {s : State}

theorem linkLevel_of_break (broken : s.pins.held = true ∨ s.hold ≠ none) (later : Nat) : linkLevel s later = .break :=
  if_pos (by simpa [linkInBreak, Option.isSome_iff_ne_none] using broken)

theorem not_linkInBreak (running : s.pins.held = false) (hold : s.hold = none) : ¬linkInBreak s = true := by
  simp [linkInBreak, running, hold]

theorem linkLevel_of_quiet (running : s.pins.held = false) (hold : s.hold = none) (sending : s.sending = none)
    (exchange : s.exchange = none) (later : Nat) : linkLevel s later = .resting := by
  rw [linkLevel, if_neg (not_linkInBreak running hold), sending, exchange]

theorem linkLevel_of_sending (running : s.pins.held = false) (hold : s.hold = none) {age : Nat} (sending : s.sending = some age)
    (later : Nat) : linkLevel s later = frameLevel s.allstopFrame (age + later) := by
  rw [linkLevel, if_neg (not_linkInBreak running hold), sending]

theorem linkLevel_of_exchange (running : s.pins.held = false) (hold : s.hold = none) (sending : s.sending = none) {x : Exchange}
    (exchange : s.exchange = some x) (later : Nat) : linkLevel s later = frameLevel s.grantFrame (x.age + later) := by
  rw [linkLevel, if_neg (not_linkInBreak running hold), sending, exchange]

/-! ### The cycle timer (R123) -/

theorem exec_cycleTimerExpiry (s : State) : exec .cycleTimerExpiry s = .next (cycleExpiry s) := rfl

theorem cycleExpiry_of_busy (busy : s.hold ≠ none ∨ s.cycle ≠ none) :
    cycleExpiry s = { s with cycleTimer := 16000000, deferred := true } :=
  if_pos (by simpa [Option.isSome_iff_ne_none] using busy)

theorem cycleExpiry_of_idle (hold : s.hold = none) (cycle : s.cycle = none) :
    cycleExpiry s = openExchange (goOn { s with cycleTimer := 16000000 } 0) :=
  if_neg (by simp [hold, cycle])

end

/-- Settles O43: the expiry begins a cycle by `goOn`, and the levels are those of the frame on the line. -/
theorem cycleTimerBeginsOrDefers : Obligations.CycleTimerBeginsOrDefers := by
  refine ⟨fun s => ?_, fun s later => ⟨fun broken => linkLevel_of_break broken later, fun running hold sending exchange =>
    linkLevel_of_quiet running hold sending exchange later, fun age running hold sending => ?_,
    fun x running hold sending exchange => ?_⟩⟩
  · refine ⟨goOn { s with cycleTimer := 16000000 } 0, cycleExpiry s, exec_cycleTimerExpiry s, cycleExpiry_of_busy,
      fun hold cycle => ⟨goOn_spec _ 0, ?_⟩⟩
    rw [cycleExpiry_of_idle hold cycle]
    rfl
  · rw [linkLevel_of_sending running hold sending]
    exact showsFrame_frameLevel _ _
  · rw [linkLevel_of_exchange running hold sending exchange]
    exact showsFrame_frameLevel _ _

/-! ### The end of a hold (R142) -/

theorem exec_linkResetHoldEnd (s : State) : exec .linkResetHoldEnd s = .next (holdEnd s) := rfl

theorem holdEnd_of_none {s : State} (hold : s.hold = none) : holdEnd s = s := if_pos (by simp [hold])

theorem holdEnd_of_held {s : State} (held : s.hold ≠ none) :
    holdEnd s
      = if s.deferred then goOn { s with hold := none, flags := s.flags ||| 0x40, deferred := false } 0
        else { s with hold := none, flags := s.flags ||| 0x40 } :=
  if_neg (by simpa using held)

/-- Settles O41: a deferred cycle begins by `goOn`. -/
theorem holdEndsWithDeferredCycle : Obligations.HoldEndsWithDeferredCycle := by
  intro s
  refine ⟨fun hold => ?_, fun held => ⟨holdEnd s, exec_linkResetHoldEnd s, fun none => ?_, fun deferred => ?_⟩⟩
  · rw [exec_linkResetHoldEnd, holdEnd_of_none hold]
  · rw [holdEnd_of_held held, if_neg (by simp [none])]
  · rw [holdEnd_of_held held, if_pos deferred]
    exact goOn_spec _ 0

/-! ### The row ALLSTOP (R127) -/

theorem exec_allstop (s : State) : exec .allstop s = .next (sendAllstop s) := rfl

/-- Settles O44: the row is the beginning of a frame on a free line, and the end of one being sent. -/
theorem allstopIsSentOnFreeLine : Obligations.AllstopIsSentOnFreeLine := by
  intro s
  obtain ⟨begins, ends⟩ := sendAllstop_spec s
  refine ⟨fun sending nothing => ?_, fun list waiting hold exchange sending => ?_, fun sending => ⟨_, exec_allstop s, ends sending⟩⟩
  · obtain ⟨-, stays⟩ := begins sending
    rw [exec_allstop, stays (nothing.imp_right fun taken free => taken.elim (absurd free.1) (absurd free.2.1))]
  · obtain ⟨sent, -⟩ := begins sending
    have result := sent list waiting ⟨hold, exchange, sending⟩
    refine ⟨_, _, exec_allstop s, rfl, result, fun running later => ?_⟩
    have level : linkLevel (sendAllstop s) later = frameLevel (allstopOf list) (0 + later) := by
      rw [result]
      refine linkLevel_of_sending ?_ ?_ ?_ later
      · exact running
      · exact hold
      · rfl
    rw [level, Nat.zero_add]
    exact showsFrame_frameLevel _ later

end Sys2Proof.BayLink
end

section
/-! Misses and valid arrivals at the close of a reply window (R130, R134 to R137, R155 to R160). -/

namespace Sys2Proof.BayLink

open Sys2Proof.Machine Sys2Proof.Safety Sys2Proof.OrderTable Sys2Proof.Allocation

/-! ### One cause at a bay (R158 to R160) -/

section
variable {s : State} {b : Fin 32} {c : Cause}

theorem headOrder_none (empty : queueAt s b = []) : headOrder s b = none := by simp [headOrder, headSlot, empty]

theorem handleCause_of_unselected (ignored : s.tuning.selection.has c = false) : handleCause b s c = s := by
  unfold handleCause
  split
  · rfl
  · exact if_pos (by simp [ignored])

theorem handleCause_of_no_head (empty : queueAt s b = []) : handleCause b s c = s := by
  simp only [handleCause, headOrder_none empty]

theorem handleCause_of_tripped {i : Fin 48} {o : Order} (head : headOrder s b = some (i, o))
    (selected : s.tuning.selection.has c = true) (tripped : o.state = .tripped) : handleCause b s c = laterCause s i o c := by
  simp [handleCause, head, selected, tripped]

theorem handleCause_of_evaluated {i : Fin 48} {o : Order} (head : headOrder s b = some (i, o))
    (selected : s.tuning.selection.has c = true) (evaluated : o.state.evaluated = true) : handleCause b s c = trip s b i o c := by
  obtain ⟨-, untripped⟩ := evaluated_ne evaluated
  simp [handleCause, head, selected, untripped, evaluated]

/-- A cause that joins a trip record (R160). -/
theorem addLater_eq (r : TripRecord) (c : Cause) : r.addLater c = { r with later := laterCauses r.first r.later [c] } := by
  obtain ⟨first, later, time, cabin⟩ := r
  cases first <;> cases c <;> simp [TripRecord.addLater, laterCauses, CauseSet.insert]

/-- The only cause found is the first of a trip record, and none is later (R159). -/
theorem laterCauses_first (c : Cause) : laterCauses c .empty [c] = .empty := by cases c <;> rfl

theorem afterCauses_of_tripped {o : Order} (tripped : o.state = .tripped) (now : Nat) (cabin : Option Int) (c : Cause) :
    afterCauses now cabin [c] o = { o with trip := o.trip.map fun r => r.addLater c } := by
  simp only [afterCauses, if_pos tripped, addLater_eq]

theorem afterCauses_of_untripped {o : Order} (untripped : o.state ≠ .tripped) (now : Nat) (cabin : Option Int) (c : Cause) :
    afterCauses now cabin [c] o = { o with
      state := .tripped
      flags := { o.flags with reversing := false }
      trip := some { first := c, later := .empty, time := now, cabin := cabin } } := by
  simp only [afterCauses, if_neg untripped]
  rw [← laterCauses_first c]
  rfl

/-- What a cause found at a bay makes of the bay's head and its record (R158 to R160). -/
structure CauseHandled (s t : State) (b : Fin 32) (c : Cause) : Prop where
  others : ∀ a, a ≠ b → bayAt t a = bayAt s a
  slots : ∀ j, ¬HeadOf s b j → slotAt t j = slotAt s j
  ignored : s.tuning.selection.has c = false ∨ queueAt s b = [] → t = s
  trips : ∀ i o, HeadOf s b i → orderAt s i = some o → s.tuning.selection.has c = true → o.state ≠ .tripped →
    slotAt t i = { slotAt s i with order := some (afterCauses s.clock (cabinAt s b) [c] o), changeMark := true }
      ∧ t.flags = s.flags ||| 0x02 ∧ bayAt t b = (bayAt s b).offer .off 0
  joins : ∀ i o, HeadOf s b i → orderAt s i = some o → s.tuning.selection.has c = true → o.state = .tripped →
    slotAt t i = { slotAt s i with order := some (afterCauses s.clock (cabinAt s b) [c] o) }
      ∧ t.flags = s.flags ∧ bayAt t b = bayAt s b

theorem causeHandled_of_ignored (ignored : s.tuning.selection.has c = false ∨ queueAt s b = []) :
    CauseHandled s (handleCause b s c) b c := by
  have same : handleCause b s c = s := ignored.elim handleCause_of_unselected handleCause_of_no_head
  have noHead {i : Fin 48} (head : HeadOf s b i) (selected : s.tuning.selection.has c = true) : False := by
    rcases ignored with unselected | empty
    · exact nomatch unselected.symm.trans selected
    · simp [HeadOf, empty] at head
  rw [same]
  exact ⟨fun _ _ => rfl, fun _ _ => rfl, fun _ => rfl, fun i o head _ selected => (noHead head selected).elim,
    fun i o head _ selected => (noHead head selected).elim⟩

section
variable {i : Fin 48} {o : Order}

/-- A queue has one head, and a slot one order. -/
theorem headOrder_unique (head : headOrder s b = some (i, o)) {j : Fin 48} {q : Order} (head' : HeadOf s b j)
    (order' : orderAt s j = some q) : j = i ∧ q = o := by
  have same := ((headOrder_iff s b j q).2 ⟨head', order'⟩).symm.trans head
  exact ⟨congrArg Prod.fst (Option.some.inj same), congrArg Prod.snd (Option.some.inj same)⟩

theorem ne_head (head : headOrder s b = some (i, o)) {j : Fin 48} (other : ¬HeadOf s b j) : j ≠ i := by
  rintro rfl
  exact other ((headOrder_iff s b j o).1 head).1

theorem not_ignored (head : headOrder s b = some (i, o)) (selected : s.tuning.selection.has c = true) :
    ¬(s.tuning.selection.has c = false ∨ queueAt s b = []) := by
  rintro (unselected | empty)
  · exact nomatch unselected.symm.trans selected
  · exact nomatch (headOrder_none empty).symm.trans head

theorem causeHandled_of_tripped (head : headOrder s b = some (i, o)) (selected : s.tuning.selection.has c = true)
    (tripped : o.state = .tripped) : CauseHandled s (handleCause b s c) b c := by
  rw [handleCause_of_tripped head selected tripped]
  refine ⟨fun _ _ => rfl, fun j other => slotAt_setSlot_ne _ _ (ne_head head other), fun no => absurd no (not_ignored head selected),
    fun j q head' order' _ untripped => ?_, fun j q head' order' _ _ => ?_⟩
  · obtain ⟨rfl, rfl⟩ := headOrder_unique head head' order'
    exact absurd tripped untripped
  · obtain ⟨rfl, rfl⟩ := headOrder_unique head head' order'
    rw [afterCauses_of_tripped tripped]
    exact ⟨slotAt_setSlot_self _ _ _, rfl, rfl⟩

theorem causeHandled_of_evaluated (head : headOrder s b = some (i, o)) (selected : s.tuning.selection.has c = true)
    (evaluated : o.state.evaluated = true) : CauseHandled s (handleCause b s c) b c := by
  have ⟨_, untripped⟩ := evaluated_ne evaluated
  have bays (a : Fin 32) : bayAt (trip s b i o c) a = if a = b then (bayAt s b).offer .off 0 else bayAt s a := by
    simp [trip, zeroPending, bayAt_writePending]
  have slots (j : Fin 48) : slotAt (trip s b i o c) j
      = if j = i then { slotAt s i with order := some (afterCauses s.clock (cabinAt s b) [c] o), changeMark := true }
        else slotAt s j := by
    rw [afterCauses_of_untripped untripped]
    exact slotAt_setSlot s i j _
  rw [handleCause_of_evaluated head selected evaluated]
  refine ⟨fun a other => (bays a).trans (if_neg other), fun j other => (slots j).trans (if_neg (ne_head head other)),
    fun no => absurd no (not_ignored head selected), fun j q head' order' _ _ => ?_, fun j q head' order' _ tripped => ?_⟩
  · obtain ⟨rfl, rfl⟩ := headOrder_unique head head' order'
    exact ⟨(slots j).trans (if_pos rfl), rfl, (bays b).trans (if_pos rfl)⟩
  · obtain ⟨rfl, rfl⟩ := headOrder_unique head head' order'
    exact absurd tripped untripped

end

/-- In sound queues a head is TRIPPED or one that a pass evaluates. -/
theorem causeHandled (sound : QueuesSound s) : CauseHandled s (handleCause b s c) b c := by
  by_cases ignored : s.tuning.selection.has c = false ∨ queueAt s b = []
  · exact causeHandled_of_ignored ignored
  obtain ⟨selected, filled⟩ := not_or.1 ignored
  rw [Bool.not_eq_false] at selected
  obtain ⟨i, rest, queue⟩ := List.exists_cons_of_ne_nil filled
  have head : HeadOf s b i := by simp [HeadOf, queue]
  have queued := ((queuesSound_iff s).1 sound b).head i
  obtain ⟨o, order, -, live⟩ := QueuesSound.head_order sound head
  have headOrder := (headOrder_iff s b i o).2 ⟨head, order⟩
  by_cases tripped : o.state = .tripped
  · exact causeHandled_of_tripped headOrder selected tripped
  · refine causeHandled_of_evaluated headOrder selected ?_
    have unqueued := queued o head order
    rw [live_iff] at live
    cases state : o.state <;> simp [state] at unqueued live tripped ⊢

end

/-! ### Misses (R136, R137, R144) -/

section
variable {s : State} {b : Fin 32}

theorem miss_of_disabled (disabled : (bayAt s b).link = .disabled) : miss s b = s := by
  simp only [miss, disabled]

/-- The third miss in a row of a bay that is not SILENT yet. -/
def EntersSilent (x : Bay) : Prop := (x.link = .unseen ∨ x.link = .online) ∧ 2 ≤ x.misses

theorem miss_of_counted (counts : (bayAt s b).link ≠ .disabled) (stays : ¬EntersSilent (bayAt s b)) :
    miss s b = setBay s b { bayAt s b with misses := min 3 ((bayAt s b).misses + 1) } := by
  have few (link : (bayAt s b).link = .unseen ∨ (bayAt s b).link = .online) : ¬min 3 ((bayAt s b).misses + 1) = 3 := by
    have := not_and.1 stays link
    omega
  unfold miss
  dsimp only
  split
  · next disabled => exact absurd disabled counts
  · rfl
  · next unseen => exact if_neg (few (.inl unseen))
  · next online => exact if_neg (few (.inr online))

/-- The state in which the third miss finds SILENT as a cause (R137, R157). -/
def silenced (s : State) (b : Fin 32) : State := raise .baySilent (setBay s b { bayAt s b with misses := 3, link := .silent })

theorem miss_of_third (enters : EntersSilent (bayAt s b)) : miss s b = handleCause b (silenced s b) .silent := by
  obtain ⟨link, misses⟩ := enters
  have third : min 3 ((bayAt s b).misses + 1) = 3 := by omega
  rcases link with unseen | online
  · simp only [miss, unseen, third, if_true, silenced]
  · simp only [miss, online, third, if_true, silenced]

theorem bayAt_silenced (s : State) (a b : Fin 32) :
    bayAt (silenced s b) a = if a = b then { bayAt s b with misses := 3, link := .silent } else bayAt s a :=
  bayAt_setBay s a b _

theorem cabinAt_silenced (s : State) (b : Fin 32) : cabinAt (silenced s b) b = (bayAt s b).tele.map (·.cabin) := by
  rw [cabinAt, bayAt_silenced, if_pos rfl]

theorem offer_counted (x : Bay) (misses : Nat) (link : LinkState) (mode : Mode) (steps : Nat) :
    ({ x with misses := misses, link := link }).offer mode steps = { x.offer mode steps with misses := misses, link := link } := by
  unfold Bay.offer
  dsimp only
  split
  · rfl
  · rfl

theorem queuesSound_frame {t : State} (sound : QueuesSound s) (slots : t.slots = s.slots) (queues : t.queues = s.queues) :
    QueuesSound t := by
  simp only [QueuesSound, LiveIn, departureAt, orderAt, slotAt, slots, queues] at sound ⊢
  exact sound

theorem exec_replyWindowClose (chars : List RxChar) (s : State) : exec (.replyWindowClose chars) s = .next (windowClose chars s) := rfl

end

/-- Settles O49: without an exchange nothing happens; otherwise the miss counts, or finds SILENT as a cause (`causeHandled`). -/
theorem missesCountToSilence : Obligations.MissesCountToSilence := by
  refine ⟨fun s chars idle => ?_, fun s x n chars cause sound polled cycle judged => ?_⟩
  · rw [exec_replyWindowClose, windowClose_of_none idle]
  refine ⟨miss { s with exchange := none } x.bay, windowClose chars s, rfl, ?_, fun disabled => miss_of_disabled disabled,
    fun counts stays => miss_of_counted counts stays, fun enters => ?_⟩
  · rw [windowClose_of_miss polled cycle judged]
    exact goOn_spec _ n
  have third : miss { s with exchange := none } x.bay = handleCause x.bay (silenced { s with exchange := none } x.bay) .silent :=
    miss_of_third enters
  have handled : CauseHandled (silenced { s with exchange := none } x.bay) (miss { s with exchange := none } x.bay) x.bay .silent := by
    rw [third]
    exact causeHandled (queuesSound_frame sound rfl rfl)
  have entered := bayAt_silenced { s with exchange := none } x.bay x.bay
  rw [if_pos rfl] at entered
  obtain ⟨others, slots, ignored, trips, joins⟩ := handled
  rw [cabinAt_silenced, entered] at trips joins
  refine ⟨?_, fun a other => ?_, fun i o head order selected untripped => ?_, fun i o head order selected tripped => ?_,
    fun i o head order selected => ?_, fun none => ?_, slots⟩
  · obtain ⟨_, _, _, writes⟩ := miss_writes { s with exchange := none } x.bay
    rw [writes]
  · rw [others a other, bayAt_silenced, if_neg other]
    rfl
  · obtain ⟨slot, flags, bay⟩ := trips i o head order selected untripped
    exact ⟨congrArg Slot.order slot, flags, bay.trans (offer_counted _ _ _ _ _)⟩
  · obtain ⟨slot, flags, bay⟩ := joins i o head order selected tripped
    exact ⟨congrArg Slot.order slot, flags, bay⟩
  · by_cases tripped : o.state = .tripped
    · obtain ⟨slot, -⟩ := joins i o head order selected tripped
      rw [slot]
      rw [decide_eq_false (not_not_intro tripped), Bool.or_false]
      exact ⟨rfl, rfl, rfl⟩
    · obtain ⟨slot, -⟩ := trips i o head order selected tripped
      rw [slot]
      rw [decide_eq_true tripped, Bool.or_true]
      exact ⟨rfl, rfl, rfl⟩
  · rw [ignored none]
    exact ⟨rfl, rfl, entered⟩

end Sys2Proof.BayLink
end

section
/-! A valid arrival (R130, R134, R135, R155): the record of the polled bay, and what the causes, the energy and the UNPLUGGED test
leave of it. -/

namespace Sys2Proof.BayLink

open Sys2Proof.Machine Sys2Proof.Safety Sys2Proof.OrderTable Sys2Proof.BayTable

/-! ### The echo (R130) -/

section
variable {x : Bay} {dead echo seqSent : Nat}

theorem echo_of_confirmation (confirms : echo = x.pending.seq ∧ echo = seqSent) :
    x.echo dead echo seqSent = x.apply dead x.pending (confirmedLapse x.pending) := if_pos confirms

theorem echo_of_renewal (other : ¬(echo = x.pending.seq ∧ echo = seqSent)) (renews : echo = x.applied.seq ∧ 0 < x.applied.steps) :
    x.echo dead echo seqSent = { x with lapse := some lapseTime } := by
  rw [Bay.echo, if_neg other, if_pos renews]

theorem echo_of_neither (other : ¬(echo = x.pending.seq ∧ echo = seqSent)) (idle : ¬(echo = x.applied.seq ∧ 0 < x.applied.steps)) :
    x.echo dead echo seqSent = x := by
  rw [Bay.echo, if_neg other, if_neg idle]

theorem pending_echo (x : Bay) (dead echo seqSent : Nat) : (x.echo dead echo seqSent).pending = x.pending := by
  unfold Bay.echo
  repeat' split
  all_goals rfl

/-- A change of applied grant by a confirmation is handed to the reversal timer; otherwise nothing is (R167). -/
theorem restAfter_echo (x : Bay) (dead echo seqSent : Nat) : RestAfter dead x (x.echo dead echo seqSent) := by
  have same (y : Bay) (applied : y.applied = x.applied) (reversal : y.reversal = x.reversal) : RestAfter dead x y := by
    unfold RestAfter
    rw [applied]
    exact ⟨fun runs off => absurd off runs, fun off runs => absurd off runs, fun _ => reversal⟩
  unfold Bay.echo
  repeat' split
  · exact apply_rest x dead _ _
  · exact same _ rfl rfl
  · exact same _ rfl rfl

end

/-! ### What follows the record of an arrival -/

/-- What a step of an arrival at bay `b` may do: no other bay, no generation and no learning mark changes, and of the bay itself
the pending grant alone may, to OFF/0. -/
structure Touches (b : Fin 32) (s t : State) : Prop where
  others : ∀ a, a ≠ b → bayAt t a = bayAt s a
  bay : bayAt t b = bayAt s b ∨ bayAt t b = (bayAt s b).offer .off 0
  marks : ∀ j, (slotAt t j).gen = (slotAt s j).gen ∧ (slotAt t j).learnMark = (slotAt s j).learnMark

/-- The head order of a bay's queue is an order of that bay. -/
def HeadHere (b : Fin 32) (s : State) : Prop := ∀ i o, headOrder s b = some (i, o) → o.bay = b

section
variable {b : Fin 32} {s t : State}

theorem Touches.refl (b : Fin 32) (s : State) : Touches b s s := ⟨fun _ _ => rfl, .inl rfl, fun _ => ⟨rfl, rfl⟩⟩

theorem Touches.raise (h : Touches b s t) (f : EventFlag) : Touches b s (raise f t) := ⟨h.others, h.bay, h.marks⟩

theorem Touches.setQueue (h : Touches b s t) (q : List (Fin 48)) : Touches b s (setQueue t b q) := ⟨h.others, h.bay, h.marks⟩

theorem Touches.zeroPending (h : Touches b s t) : Touches b s (zeroPending t b) := by
  refine ⟨fun a other => ?_, .inr ?_, h.marks⟩
  · rw [Machine.zeroPending, bayAt_writePending, if_neg other]
    exact h.others a other
  · rw [Machine.zeroPending, bayAt_writePending, if_pos rfl]
    rcases h.bay with same | zeroed
    · rw [same]
    · rw [zeroed, offer_offer_same]

theorem Touches.setSlot (h : Touches b s t) {i : Fin 48} {x : Slot} (gen : x.gen = (slotAt t i).gen)
    (mark : x.learnMark = (slotAt t i).learnMark) : Touches b s (setSlot t i x) := by
  refine ⟨h.others, h.bay, fun j => ?_⟩
  rw [slotAt_setSlot]
  split
  · next same =>
    rw [gen, mark, ← same]
    exact h.marks j
  · exact h.marks j

theorem Touches.putOrder (h : Touches b s t) (i : Fin 48) (o : Order) : Touches b s (putOrder t i o) := h.setSlot rfl rfl

theorem Touches.promoteHead (h : Touches b s t) (a : Fin 32) : Touches b s (promoteHead t a) := by
  unfold Machine.promoteHead
  repeat' split
  · exact h
  · exact h.setSlot rfl rfl
  · exact h

theorem HeadHere.setSlot (here : HeadHere b t) {i : Fin 48} {o n : Order} (head : headOrder t b = some (i, o)) {x : Slot}
    (order : x.order = some n) (bay : n.bay = o.bay) : HeadHere b (setSlot t i x) := by
  intro j q head'
  obtain ⟨first, order'⟩ := (headOrder_iff _ b j q).1 head'
  obtain ⟨first', -⟩ := (headOrder_iff t b i o).1 head
  obtain rfl : j = i := Option.some.inj (first.symm.trans first')
  rw [orderAt_setSlot, if_pos rfl, order] at order'
  rw [← Option.some.inj order', bay]
  exact here j o head

/-- A cause writes the head order, and its trip the pending grant (R159, R160). -/
theorem Touches.handleCause (h : Touches b s t ∧ HeadHere b t) (c : Cause) :
    Touches b s (handleCause b t c) ∧ HeadHere b (handleCause b t c) := by
  obtain ⟨touches, here⟩ := h
  unfold Machine.handleCause
  split
  · exact ⟨touches, here⟩
  next i o head =>
  repeat' split
  · exact ⟨touches, here⟩
  · exact ⟨touches.putOrder i _, here.setSlot head rfl rfl⟩
  · have tripped (n : Order) : Touches b s (Machine.setSlot t i { slotAt t i with order := some n, changeMark := true }) :=
      touches.setSlot rfl rfl
    exact ⟨(tripped _).zeroPending.raise _, here.setSlot head rfl rfl⟩
  · exact ⟨touches, here⟩

theorem Touches.accumulate (h : Touches b s t ∧ HeadHere b t) (power : Nat) (prev : Option Nat) :
    Touches b s (accumulate t b power prev) ∧ HeadHere b (accumulate t b power prev) := by
  obtain ⟨touches, here⟩ := h
  unfold Machine.accumulate
  split
  · exact ⟨touches, here⟩
  next i o head =>
  split
  · exact ⟨touches.putOrder i _, here.setSlot head rfl rfl⟩
  · exact ⟨touches, here⟩

/-- The head that leaves is an order of the bay, so its closing zeroes the bay's own grant (R10, R30). -/
theorem Touches.testUnplug (h : Touches b s t ∧ HeadHere b t) (tele : Telemetry) : Touches b s (testUnplug t b tele) := by
  obtain ⟨touches, here⟩ := h
  unfold Machine.testUnplug
  split
  · exact touches
  next i o head =>
  split
  · obtain ⟨first, order⟩ := (headOrder_iff t b i o).1 head
    have first' : HeadOf (Machine.putOrder t i (closedOrder t o .unplugged)) b i := first
    rw [closeOrder_of_order order, here i o head, leaveQueue_of_head_gone first' (List.mem_singleton_self i)]
    exact ((((touches.putOrder i _).setQueue _).zeroPending).promoteHead b).raise _
  · exact touches

end

/-! ### The record of an arrival (R130, R134, R155, R167) -/

/-- The record when the causes are found: the arrival recorded, and its power counted (R134, R155). -/
def arrivedBay (s : State) (b : Fin 32) (seqSent echo : Nat) (t : Telemetry) : Bay :=
  let y := (bayAt s b).arrive s.tuning.dead s.clock echo seqSent t
  { y with overdraw := overdrawAfter y t.power }

theorem setBay_setBay (s : State) (b : Fin 32) (x y : Bay) : setBay (setBay s b x) b y = setBay s b y := by
  simp [setBay]

/-- A valid arrival writes the record, and touches nothing of the bays beyond it. -/
theorem touches_validArrival {s : State} {b : Fin 32} (sound : QueuesSound s) (seqSent echo : Nat) (t : Telemetry) :
    Touches b (setBay s b (arrivedBay s b seqSent echo t)) (validArrival s b seqSent echo t) := by
  have here : HeadHere b (setBay s b (arrivedBay s b seqSent echo t)) := fun i o head => by
    obtain ⟨first, order⟩ := (headOrder_iff s b i o).1 head
    exact (bay_of_mem_queue sound (List.mem_of_head? first) order).1
  have guarded : Touches b (setBay s b (arrivedBay s b seqSent echo t))
        (protectArrival (setBay s b ((bayAt s b).arrive s.tuning.dead s.clock echo seqSent t)) b t)
      ∧ HeadHere b (protectArrival (setBay s b ((bayAt s b).arrive s.tuning.dead s.clock echo seqSent t)) b t) := by
    unfold protectArrival
    dsimp only
    rw [setBay_setBay, bayAt_setBay_self]
    exact foldl_keeps (fun u => Touches b _ u ∧ HeadHere b u) _ (fun _ c hu => Touches.handleCause hu c) _ _ ⟨Touches.refl b _, here⟩
  exact Touches.testUnplug (Touches.accumulate guarded t.power (bayAt s b).stamp) t

/-- Beyond the pending grant a touched bay keeps its record. -/
theorem Touches.record {b : Fin 32} {s t : State} (h : Touches b s t) :
    ∃ g, bayAt t b = { bayAt s b with pending := g } ∧ (g = (bayAt s b).pending ∨ g = ((bayAt s b).offer .off 0).pending) := by
  rcases h.bay with same | zeroed
  · exact ⟨_, same, .inl rfl⟩
  · refine ⟨_, zeroed.trans ?_, .inr rfl⟩
    unfold Bay.offer
    split
    · rfl
    · rfl

/-- The pending grant alone decides what a write makes of it. -/
theorem offer_pending_congr {x y : Bay} (same : x.pending = y.pending) (mode : Mode) (steps : Nat) :
    (x.offer mode steps).pending = (y.offer mode steps).pending := by
  unfold Bay.offer
  rw [same]
  split
  · exact same
  · rfl

theorem pending_arrivedBay (s : State) (b : Fin 32) (seqSent echo : Nat) (t : Telemetry) :
    (arrivedBay s b seqSent echo t).pending = (bayAt s b).pending := pending_echo (bayAt s b) s.tuning.dead echo seqSent

/-- Settles O47: the record is `arrivedBay`, of which what follows may zero the pending grant (`touches_validArrival`). -/
theorem validArrivalUpdatesTheBay : Obligations.ValidArrivalUpdatesTheBay := by
  intro s x n chars echo tele sound polled cycle judged
  have touches := touches_validArrival (s := { s with exchange := none }) (b := x.bay) (queuesSound_frame sound rfl rfl) x.seqSent echo tele
  refine ⟨validArrival { s with exchange := none } x.bay x.seqSent echo tele, windowClose chars s, rfl, ?_, ?_, fun a other => ?_,
    touches.marks, ?_⟩
  · rw [windowClose_of_valid polled cycle judged]
    exact goOn_spec _ n
  · obtain ⟨_, _, _, _, writes⟩ := validArrival_writes { s with exchange := none } x.bay x.seqSent echo tele
    rw [writes]
  · exact (touches.others a other).trans (bayAt_setBay_ne _ _ other)
  obtain ⟨g, record, pending⟩ := touches.record
  rw [bayAt_setBay_self] at record pending
  rw [record]
  have rest := restAfter_echo (bayAt s x.bay) s.tuning.dead echo x.seqSent
  have keeps (z : Bay) (made : (bayAt s x.bay).echo s.tuning.dead echo x.seqSent = z) :
      ((bayAt s x.bay).echo s.tuning.dead echo x.seqSent).applied = z.applied
        ∧ ((bayAt s x.bay).echo s.tuning.dead echo x.seqSent).lapse = z.lapse := by
    rw [made]
    exact ⟨rfl, rfl⟩
  refine ⟨enabled_echo _ _ _ _, rfl, rfl, rfl, rfl, fun named sent => keeps _ (echo_of_confirmation ⟨named, sent⟩),
    fun other named runs => keeps _ (echo_of_renewal other ⟨named, runs⟩), fun other idle => keeps _ (echo_of_neither other idle), rest,
    ?_, ?_⟩
  · show overdrawAfter ((bayAt s x.bay).arrive s.tuning.dead s.clock echo x.seqSent tele) tele.power = _
    rw [← overdraw_echo (bayAt s x.bay) s.tuning.dead echo x.seqSent]
    rfl
  · have before := pending_arrivedBay { s with exchange := none } x.bay x.seqSent echo tele
    exact pending.imp (fun same => same.trans before) fun zeroed => zeroed.trans (offer_pending_congr before _ _)

end Sys2Proof.BayLink
end

section
/-! What the commands of the port leave as it was (R178): the response and the frame aside, most of them write neither the lines
nor the bay table, the pass or the tuning values, and every answer fits the response frame (R172, R179). -/

namespace Sys2Proof.Port

open Sys2Proof.Machine Sys2Proof.Safety Sys2Proof.OrderTable

/-! ### The parts of a state that few commands write -/

/-- The port, the pins and the CURT line of a state and nothing else of it: every other field at its reset value. -/
def lines (s : State) : State :=
  { State.reset with response := s.response, rx := s.rx, pins := s.pins, curt := s.curt, lineState := s.lineState }

/-- The lines of a state with its bay table, its pass and its tuning values, and nothing else of it. -/
def core (s : State) : State := { lines s with bays := s.bays, pass := s.pass, tuning := s.tuning }

section
variable {s t u : State}

theorem lines_eq_of_core (same : core t = core s) : lines t = lines s :=
  congrArg (fun u : State => { u with bays := State.reset.bays, pass := none, tuning := .initial }) same

/-- The response of a command within its bounds (R172, R179). -/
def Fits (code : RespCode) (payload : List Byte) : Prop := payload.length ≤ 60 ∧ (code ≠ .ok → payload = [])

theorem fits_empty (code : RespCode) : Fits code [] := ⟨Nat.zero_le _, fun _ => rfl⟩

theorem fits_ok {payload : List Byte} (most : payload.length ≤ 60) : Fits .ok payload := ⟨most, fun other => absurd rfl other⟩

/-- A command answered on a state with the lines of `s`; that the answer fits may rest on sound queues (R24). -/
def Answered (s t : State) : Prop :=
  ∃ code payload u, (QueuesSound s → Fits code payload) ∧ lines u = lines s ∧ t = answer code payload u

/-- A command answered on a state with the core of `s`. -/
def AnsweredOnCore (s t : State) : Prop :=
  ∃ code payload u, (QueuesSound s → Fits code payload) ∧ core u = core s ∧ t = answer code payload u

theorem AnsweredOnCore.answered (h : AnsweredOnCore s t) : Answered s t := by
  obtain ⟨code, payload, u, fits, same, rfl⟩ := h
  exact ⟨code, payload, u, fits, lines_eq_of_core same, rfl⟩

theorem answeredOnCore_ok {payload : List Byte} (most : payload.length ≤ 60) (same : core u = core s) :
    AnsweredOnCore s (answer .ok payload u) := ⟨.ok, payload, u, fun _ => fits_ok most, same, rfl⟩

theorem answeredOnCore_refuse (code : RespCode) (s : State) : AnsweredOnCore s (refuse code s) :=
  ⟨code, [], s, fun _ => fits_empty code, rfl, rfl⟩

theorem answered_ok (same : lines u = lines s) : Answered s (answer .ok [] u) := ⟨.ok, [], u, fun _ => fits_empty _, same, rfl⟩

theorem answered_refuse (code : RespCode) (s : State) : Answered s (refuse code s) := (answeredOnCore_refuse code s).answered

/-! ### The lengths of the payloads (section 8.7) -/

theorem length_be16 (n : Nat) : (be16 n).length = 2 := rfl
theorem length_be32 (n : Nat) : (be32 n).length = 4 := rfl
theorem length_beInt16 (i : Int) : (beInt16 i).length = 2 := rfl
theorem length_bytes32 (w : Word) : (bytes32 w).length = 4 := rfl

theorem length_optPart {α : Type} {width : Nat} {fields : α → List Byte} (widths : ∀ a, (fields a).length = width) (x : Option α) :
    (optPart width fields x).length = width + 1 := by
  cases x with
  | none => simp [optPart, zeros]
  | some a => simp [optPart, widths]

theorem length_identityBytes (s : State) (i : Fin 48) (o : Order) : (identityBytes s i o).length = 26 := rfl

theorem length_figuresBytes (o : Order) : (figuresBytes o).length = 28 := by
  have activation (a : Activation) : (activationBytes a).length = 10 := rfl
  have figures (f : Figures) : (figureBytes f).length = 16 := rfl
  rw [figuresBytes, List.length_append, length_optPart activation, length_optPart figures]

theorem length_historyBytes (o : Order) : (historyBytes o).length = 24 := by
  have trip (r : TripRecord) : (tripBytes r).length = 9 := by
    rw [tripBytes, List.length_append, length_optPart length_beInt16]; rfl
  have outcome (r : OutcomeRecord) : (outcomeBytes r).length = 13 := by
    simp [outcomeBytes, length_optPart length_beInt16, length_be32]
  rw [historyBytes, List.length_append, length_optPart trip, length_optPart outcome]

theorem length_bayBytes (s : State) (x : Bay) : (bayBytes s x).length = 35 := by
  have reversal : (reversalBytes x.reversal).length = 3 := by cases x.reversal <;> rfl
  have tele (t : Telemetry) : (teleBytes t).length = 14 := rfl
  simp [bayBytes, length_optPart length_be32, length_optPart tele, grantFields, reversal]

theorem length_budgetBytes (s : State) : (budgetBytes s).length = 51 := by
  have age (n : Nat) : (ageField n).length = 2 := rfl
  simp [budgetBytes, length_optPart age, length_be16, windowBytes, List.finRange_succ]

theorem length_handlesBytes (s : State) (l : List (Fin 48)) : (handlesBytes s l).length = 2 * l.length := by
  simp [handlesBytes, handleBytes, List.length_flatMap, Nat.mul_comm]

/-- A page lists at most 28 handles (R25). -/
theorem length_pageBytes_le (s : State) (l : List (Fin 48)) : (pageBytes s l).length ≤ 60 := by
  simp only [pageBytes, List.length_append, length_handlesBytes, List.length_take, List.length_cons, List.length_nil]
  omega

/-! ### The commands that read -/

theorem answeredOnCore_lookup (h : WireHandle) (part : Byte) (s : State) : AnsweredOnCore s (lookupOrder h part s) := by
  unfold lookupOrder
  repeat' split
  · exact answeredOnCore_refuse _ s
  · exact answeredOnCore_refuse _ s
  · exact answeredOnCore_ok (by rw [length_identityBytes]; omega) rfl
  · exact answeredOnCore_ok (by rw [length_figuresBytes]; omega) rfl
  · exact answeredOnCore_ok (by rw [length_historyBytes]; omega) rfl

/-- A queue holds at most 3 orders, so their handles fit (R24). -/
theorem answeredOnCore_findByBay (bay : Byte) (s : State) : AnsweredOnCore s (findByBay bay s) := by
  unfold findByBay
  split
  · exact answeredOnCore_refuse _ s
  · next b _ =>
    refine ⟨.ok, _, s, fun sound => fits_ok ?_, rfl, rfl⟩
    have three := ((queuesSound_iff s).1 sound b).length
    rw [List.length_cons, length_handlesBytes]
    omega

theorem answeredOnCore_findByTag (tag : Word) (start : Byte) (s : State) : AnsweredOnCore s (findByTag tag start s) := by
  unfold findByTag
  split
  · exact answeredOnCore_refuse _ s
  · exact answeredOnCore_ok (length_pageBytes_le _ _) rfl

theorem answeredOnCore_findByState (code start : Byte) (s : State) : AnsweredOnCore s (findByState code start s) := by
  unfold findByState
  repeat' split
  · exact answeredOnCore_refuse _ s
  · exact answeredOnCore_refuse _ s
  · exact answeredOnCore_ok (length_pageBytes_le _ _) rfl

theorem answeredOnCore_profileRead (tag : Word) (s : State) : AnsweredOnCore s (profileRead tag s) := by
  have length (p : Profile) : (profileBytes s p).length = 11 := rfl
  unfold profileRead
  split
  · exact answeredOnCore_refuse _ s
  · exact answeredOnCore_ok (by rw [length]; omega) rfl

theorem answeredOnCore_readBay (bay : Byte) (s : State) : AnsweredOnCore s (readBay bay s) := by
  unfold readBay
  split
  · exact answeredOnCore_refuse _ s
  · exact answeredOnCore_ok (by rw [length_bayBytes]; omega) rfl

/-! ### The commands that write orders and profiles -/

theorem core_consult (s : State) (tag : Tag) : core (consult s tag).1 = core s := by
  obtain ⟨_, writes⟩ := consult_writes s tag
  rw [writes]; rfl

theorem core_rehead (s : State) (b : Fin 32) (old : Option (Fin 48)) : core (rehead s b old) = core s := by
  obtain ⟨_, writes⟩ := rehead_writes s b old
  rw [writes]; rfl

theorem core_createOrder (s : State) (i : Fin 48) (o : Order) : core (createOrder s i o) = core s :=
  (core_rehead _ _ _).trans (core_consult s o.tag)

theorem core_applyAmend (s : State) (i : Fin 48) (o : Order) (c : Changes) : core (applyAmend s i o c) = core s := by
  have written : core (amendWritten s i o (amendedOrder o c)) = core s := by
    obtain ⟨_, writes, -⟩ := amendWritten_writes s i o (amendedOrder o c)
    rw [writes]; rfl
  rw [applyAmend_eq]
  split
  · exact (core_rehead _ _ _).trans written
  · exact written

theorem answeredOnCore_openOrder (bay : Byte) (tag departure : Word) (target : Half) (band priority options : Byte) (s : State) :
    AnsweredOnCore s (openOrder bay tag departure target band priority options s) := by
  unfold openOrder
  repeat' split
  · exact answeredOnCore_refuse _ s
  · exact answeredOnCore_refuse _ s
  · exact answeredOnCore_refuse _ s
  · exact answeredOnCore_refuse _ s
  · exact answeredOnCore_ok (by simp [handleBytes]) (core_createOrder s _ _)
  · exact answeredOnCore_refuse _ s

theorem answeredOnCore_amendOrder (h : WireHandle) (force changes : Byte) (departure : Word) (target : Half) (band priority : Byte)
    (tag : Word) (s : State) : AnsweredOnCore s (amendOrder h force changes departure target band priority tag s) := by
  have amended (i : Fin 48) (o : Order) (c : Changes) : AnsweredOnCore s (answer .ok [] (applyAmend s i o c)) :=
    answeredOnCore_ok (Nat.zero_le _) (core_applyAmend s i o c)
  unfold amendOrder
  dsimp only
  repeat' split
  · exact answeredOnCore_refuse _ s
  · exact answeredOnCore_refuse _ s
  · exact answeredOnCore_refuse _ s
  · exact answeredOnCore_refuse _ s
  · exact answeredOnCore_refuse _ s
  · exact amended _ _ _
  · exact answeredOnCore_refuse _ s
  · exact answeredOnCore_refuse _ s
  · exact amended _ _ _

theorem answeredOnCore_setLocked (locked : Bool) (h : WireHandle) (s : State) : AnsweredOnCore s (setLocked locked h s) := by
  unfold setLocked
  repeat' split
  · exact answeredOnCore_refuse _ s
  · exact answeredOnCore_refuse _ s
  · exact answeredOnCore_ok (Nat.zero_le _) rfl

theorem answeredOnCore_retireOrder (h : WireHandle) (s : State) : AnsweredOnCore s (retireOrder h s) := by
  unfold retireOrder
  repeat' split
  · exact answeredOnCore_refuse _ s
  · exact answeredOnCore_refuse _ s
  · exact answeredOnCore_ok (Nat.zero_le _) rfl

theorem answeredOnCore_profilePreset (tag : Word) (kc u pin : Byte) (s : State) :
    AnsweredOnCore s (profilePreset tag kc u pin s) := by
  have length (created : Byte) (evicted : Tag) : (created :: bytes32 evicted).length ≤ 60 := by simp [length_bytes32]
  unfold profilePreset
  repeat' split
  · exact answeredOnCore_refuse _ s
  · exact answeredOnCore_ok (length _ _) rfl
  · exact answeredOnCore_refuse _ s
  · next room =>
    obtain ⟨_, rfl⟩ := makeRoom_writes room
    exact answeredOnCore_ok (length _ _) rfl

theorem answeredOnCore_profileDrop (tag : Word) (s : State) : AnsweredOnCore s (profileDrop tag s) := by
  unfold profileDrop
  repeat' split
  · exact answeredOnCore_refuse _ s
  · exact answeredOnCore_refuse _ s
  · exact answeredOnCore_ok (Nat.zero_le _) rfl

/-! ### The commands that write caps, windows and the load record -/

theorem answeredOnCore_setCeiling (value : Half) (s : State) : AnsweredOnCore s (setCeiling value s) := by
  unfold setCeiling
  split
  · exact answeredOnCore_ok (by simp [length_be16]) rfl
  · exact answeredOnCore_refuse _ s

theorem answeredOnCore_setFeeder (feeder base limit : Byte) (cap : Half) (s : State) :
    AnsweredOnCore s (setFeeder feeder base limit cap s) := by
  unfold setFeeder
  split
  · exact answeredOnCore_refuse _ s
  · exact answeredOnCore_ok (by simp [length_be16]) rfl

theorem answeredOnCore_reportLoad (site : Half) (count : Byte) (loads : List Half) (s : State) :
    AnsweredOnCore s (reportLoad site count loads s) := by
  unfold reportLoad
  repeat' split
  · exact answeredOnCore_refuse _ s
  · exact answeredOnCore_refuse _ s
  · exact answeredOnCore_ok (Nat.zero_le _) rfl

/-! ### Every command -/

/-- The commands that write the bay table, the pass, the tuning values or the lines beside the response. -/
def writesCore : Instr → Bool
  | .softReset | .setClock _ | .setTuning _ _ _ _ _ _ | .close _ _ | .enableBays _ | .linkReset | .rearm _ | .curtail _
  | .allocateNow => true
  | _ => false

/-- Every other command leaves its state, or is answered on its core. -/
theorem answeredOnCore_runCommand {i : Instr} (other : writesCore i = false) (run : runCommand i s = .next t) :
    t = s ∨ AnsweredOnCore s t := by
  cases i with
  | softReset | setClock | setTuning | close | enableBays | linkReset | rearm | curtail | allocateNow => cases other
  | nop => cases run; exact .inr ⟨.nothing, [], s, fun _ => fits_empty _, rfl, rfl⟩
  | status | readClock =>
    cases run
    exact .inr (answeredOnCore_ok (by simp [statusBytes, length_be32]) rfl)
  | readBudget => cases run; exact .inr (answeredOnCore_ok (by rw [length_budgetBytes]; omega) rfl)
  | clearStatus | setAttnMask => cases run; exact .inr (answeredOnCore_ok (by simp) rfl)
  | setWorkingCap | setCurtailCap | setFallbackCap =>
    cases run
    exact .inr (answeredOnCore_ok (by simp [length_be16]) rfl)
  | openOrder => cases run; exact .inr (answeredOnCore_openOrder ..)
  | amend => cases run; exact .inr (answeredOnCore_amendOrder ..)
  | lock | unlock => cases run; exact .inr (answeredOnCore_setLocked ..)
  | retire => cases run; exact .inr (answeredOnCore_retireOrder ..)
  | lookup => cases run; exact .inr (answeredOnCore_lookup ..)
  | findByBay => cases run; exact .inr (answeredOnCore_findByBay ..)
  | findByTag => cases run; exact .inr (answeredOnCore_findByTag ..)
  | findByState => cases run; exact .inr (answeredOnCore_findByState ..)
  | profileRead => cases run; exact .inr (answeredOnCore_profileRead ..)
  | profilePreset => cases run; exact .inr (answeredOnCore_profilePreset ..)
  | profileDrop => cases run; exact .inr (answeredOnCore_profileDrop ..)
  | setCeiling => cases run; exact .inr (answeredOnCore_setCeiling ..)
  | setFeeder => cases run; exact .inr (answeredOnCore_setFeeder ..)
  | reportLoad => cases run; exact .inr (answeredOnCore_reportLoad ..)
  | readBay => cases run; exact .inr (answeredOnCore_readBay ..)
  | frameError | shortTransfer | powerOnReset | pinReset | curtLineChange | allstop | clockAdvance | periodTimerExpiry | publish
  | cycleTimerExpiry | replyWindowClose | linkResetHoldEnd | lapse | reversalTimerExpiry | loadStaleTransition =>
    cases run
    exact .inl rfl

end

end Sys2Proof.Port
end

section
/-! Every step and every edge at the pins keeps the prepared response, the frame being received and the line state in their form
(R148, R149, R172, R179). -/

namespace Sys2Proof.Port

open Sys2Proof.Machine Sys2Proof.Safety Sys2Proof.OrderTable Sys2Proof.Commitment

/-! ### What leaves the lines as they are -/

section
variable (s : State)

theorem lines_mapBays (f : Fin 32 → Bay → Bay) : lines (mapBays f s) = lines s := by simp [lines]

theorem lines_raise (f : EventFlag) : lines (raise f s) = lines s := rfl

theorem lines_closeOrder (i : Fin 48) (kind : OutcomeKind) : lines (closeOrder s i kind) = lines s := by
  obtain ⟨_, _, _, _, writes⟩ := closeOrder_writes s i kind
  rw [writes]; rfl

theorem lines_expire : lines (expire s) = lines s := by
  obtain ⟨_, _, _, _, writes⟩ := expire_writes s
  rw [writes]; rfl

theorem lines_startPass : lines (startPass s) = lines s := by
  have started := (startPass_spec s).1
  generalize startPass s = t at started ⊢
  rw [started]; rfl

theorem lines_requestPass : lines (requestPass s) = lines s := by
  unfold requestPass
  split
  · rfl
  · exact lines_startPass s

theorem lines_publishPass : lines (publishPass s) = lines s := by
  cases flying : s.pass with
  | none => rw [publishPass_idle flying]
  | some p =>
    obtain ⟨_, _, _, _, writes⟩ := published_writes (s := s) p
    rw [publishPass_of_pass flying, writes]
    unfold endPass
    split
    · exact lines_startPass _
    · rfl

theorem lines_goOn (n : Nat) : lines (goOn s n) = lines s := by
  obtain ⟨_, _, _, _, _, _, _, writes⟩ := goOn_writes s n
  rw [writes]; rfl

theorem lines_beginAllstop : lines (beginAllstop s) = lines s := by
  obtain ⟨_, _, _, writes⟩ := beginAllstop_writes s
  rw [writes]; rfl

theorem lines_requestAllstop (list : Word) : lines (requestAllstop list s) = lines s := by
  obtain ⟨_, _, _, _, _, _, writes⟩ := requestAllstop_writes list s
  rw [writes]; rfl

theorem lines_cycleExpiry : lines (cycleExpiry s) = lines s := by
  unfold cycleExpiry
  dsimp only
  split
  · rfl
  · exact lines_goOn _ 0

theorem lines_sendAllstop : lines (sendAllstop s) = lines s := by
  unfold sendAllstop
  dsimp only
  repeat' split
  · exact lines_beginAllstop _
  · exact lines_goOn _ _
  · exact lines_beginAllstop s

theorem lines_holdEnd : lines (holdEnd s) = lines s := by
  unfold holdEnd
  dsimp only
  repeat' split
  · rfl
  · exact lines_goOn _ 0
  · rfl

theorem lines_windowClose (chars : List RxChar) : lines (windowClose chars s) = lines s := by
  have missed (u : State) (b : Fin 32) : lines (miss u b) = lines u := by
    obtain ⟨_, _, _, writes⟩ := miss_writes u b
    rw [writes]; rfl
  have arrived (u : State) (b : Fin 32) (seqSent echo : Nat) (t : Telemetry) :
      lines (validArrival u b seqSent echo t) = lines u := by
    obtain ⟨_, _, _, _, writes⟩ := validArrival_writes u b seqSent echo t
    rw [writes]; rfl
  unfold windowClose
  dsimp only
  repeat' split
  · rfl
  · exact missed _ _
  · exact arrived _ _ _ _ _
  · exact (lines_goOn _ _).trans (missed _ _)
  · exact (lines_goOn _ _).trans (arrived _ _ _ _ _)

theorem lines_curtailArrival : lines (curtailArrival s) = lines s := by
  have paused : lines (allBays.foldl curtailBay s) = lines s := by
    obtain ⟨_, _, writes⟩ := curtailBays_writes allBays s
    rw [writes]; rfl
  have requested := (lines_requestAllstop (allBays.foldl curtailBay s) (allstopList s)).trans paused
  unfold curtailArrival arrivalPass
  rw [lines_raise]
  split
  · exact (lines_startPass _).trans requested
  · exact (lines_startPass _).trans requested

theorem lines_judgeCurtailment (before : Bool) : lines (judgeCurtailment before s) = lines s := by
  unfold judgeCurtailment
  repeat' split
  · rfl
  · exact lines_curtailArrival s
  · exact lines_requestPass s

theorem lines_loadStaleTransition : lines (loadStaleTransition s) = lines s := by
  unfold loadStaleTransition
  split
  · rfl
  · rfl

theorem lines_clockAdvance : lines (clockAdvance s) = lines s := by
  unfold clockAdvance
  split
  · rfl
  · exact lines_expire _

theorem lines_lapseBay (b : Fin 32) : lines (lapseBay b s) = lines s := by
  unfold lapseBay
  split
  · rfl
  · rfl

/-! ### What a change of the filtered CURT line and the end of a reset write (R148, R149) -/

/-- The change of the filtered level itself: the line state follows it outside a reset. -/
def filtered (level : Bool) : State :=
  if s.pins.held then { s with curt := s.curt.settle level } else { s with curt := s.curt.settle level, lineState := level }

theorem lines_curtLineChange (level : Bool) : lines (curtLineChange level s) = lines (filtered s level) := by
  rw [curtLineChange_eq, filtered]
  split
  · rfl
  · exact lines_judgeCurtailment _ _

theorem lines_sampleLine : lines (sampleLine s) = lines { s with lineState := s.curt.level } := by
  unfold sampleLine
  split
  · next asserted =>
    rw [asserted]
    exact lines_curtailArrival _
  · next released =>
    rw [Bool.not_eq_true] at released
    rw [released]

/-- Every event of time but a change of the CURT line leaves the lines as they are. -/
theorem lines_takeEvent (e : TimedEvent) : lines (takeEvent s e) = lines (if e = .curt then filtered s s.curt.line else s) := by
  cases e with
  | clock => exact lines_clockAdvance s
  | period => exact lines_requestPass _
  | cycle => exact lines_cycleExpiry s
  | hold => exact lines_holdEnd s
  | window => exact lines_windowClose s []
  | publish => exact lines_publishPass s
  | loadStale => exact lines_loadStaleTransition s
  | allstop => exact lines_sendAllstop s
  | curt => exact lines_curtLineChange s _
  | lapse b => exact lines_lapseBay s b
  | reversal b => rfl

theorem lines_elapse : lines (elapse s) = lines { s with curt := s.curt.count } := by
  unfold elapse
  rw [lines_mapBays]
  dsimp only [lines]

end

/-! ### The lines after a command or event -/

/-- What a command or event may do to the lines: nothing, a response, the end of a reset, or a change of the filtered level. -/
inductive LinesStep (s t : State) : Prop where
  | kept (same : lines t = lines s)
  | answered (answered : Answered s t)
  | reset (z : State) (response : z.response = { code := .nothing, payload := [] }) (rx : z.rx = .empty)
      (filter : (s.curt.line = s.curt.level → s.curt.since = 0) → z.curt.line = z.curt.level → z.curt.since = 0)
      (sampled : lines t = lines { z with lineState := z.curt.level })
  | filtered (level : Bool) (same : lines t = lines (filtered s level))

section
variable {s t : State}

/-- A filter at a level that it has taken counts nothing (R149). -/
theorem since_settle {f : CurtFilter} (counts : f.line = f.level → f.since = 0) (level : Bool) :
    (f.settle level).line = (f.settle level).level → (f.settle level).since = 0 := by
  unfold CurtFilter.settle
  split
  · exact counts
  · exact fun _ => rfl

theorem linesStep_softReset (s : State) : LinesStep s (softReset s) := by
  unfold softReset
  generalize emptied : mapBays _ _ = z
  refine .reset z ?_ ?_ ?_ (lines_sampleLine z)
  · rw [← emptied, mapBays_response, mapSlots_response]
  · rw [← emptied, mapBays_rx, mapSlots_rx]
  · rw [← emptied, mapBays_curt, mapSlots_curt]
    exact id

/-- The commands of the port that write more than tables. -/
theorem answered_of_writesCore {i : Instr} (writes : writesCore i = true) (other : i ≠ .softReset) (run : runCommand i s = .next t) :
    Answered s t := by
  cases i with
  | softReset => exact absurd rfl other
  | setClock c => cases run; exact answered_ok (lines_expire _)
  | setTuning p d l st sel band =>
    cases run
    refine ⟨.ok, _, _, fun _ => fits_ok ?_, ?_, rfl⟩
    · simp [tuningBytes, length_be16]
    · split
      · exact lines_loadStaleTransition _
      · rfl
  | close h force =>
    cases run
    unfold closeCommand
    repeat' split
    · exact answered_refuse _ s
    · exact answered_refuse _ s
    · exact answered_refuse _ s
    · exact answered_ok (lines_closeOrder _ _ _)
  | enableBays l => cases run; exact answered_ok (lines_mapBays s _)
  | linkReset => cases run; exact answered_ok (lines_mapBays _ _)
  | rearm h =>
    cases run
    unfold rearmOrder
    repeat' split
    · exact answered_refuse _ s
    · exact answered_refuse _ s
    · exact answered_refuse _ s
    · exact answered_ok (lines_requestPass _)
  | curtail v =>
    cases run
    exact ⟨.ok, _, judgeCurtailment (inForce s) { s with softCurtail := flagByte v }, fun _ => fits_ok (Nat.le_of_ble_eq_true rfl),
      lines_judgeCurtailment _ _, rfl⟩
  | allocateNow => cases run; exact answered_ok (lines_requestPass s)
  | _ => cases writes

theorem linesStep_runCommand {i : Instr} (run : runCommand i s = .next t) : LinesStep s t := by
  by_cases reset : i = .softReset
  · subst reset
    cases run
    exact linesStep_softReset s
  cases writes : writesCore i with
  | true => exact .answered (answered_of_writesCore writes reset run)
  | false =>
    rcases answeredOnCore_runCommand writes run with rfl | answered
    · exact .kept rfl
    · exact .answered answered.answered

theorem linesStep_execFrameError {bytes : List Byte} (run : execFrameError bytes s = .next t) : LinesStep s t := by
  unfold execFrameError at run
  split at run
  · cases run; exact .kept rfl
  · cases run; exact .answered (answered_refuse _ s)
  · exact linesStep_runCommand run

theorem linesStep_exec {i : Instr} (run : exec i s = .next t) : LinesStep s t := by
  have command (same : exec i s = runCommand i s) : LinesStep s t := linesStep_runCommand (same.symm.trans run)
  have event (e : TimedEvent) (other : e ≠ .curt) (same : exec i s = .next (takeEvent s e)) : LinesStep s t := by
    rw [same] at run
    cases run
    refine .kept ?_
    rw [lines_takeEvent, if_neg other]
  cases i with
  | frameError bytes => exact linesStep_execFrameError run
  | shortTransfer => cases run; exact .kept rfl
  | powerOnReset curt => cases run; exact .reset _ rfl rfl (fun _ _ => rfl) (lines_sampleLine _)
  | pinReset curt =>
    cases run
    exact .reset _ rfl rfl (fun counts => since_settle counts curt) (lines_sampleLine _)
  | curtLineChange level => cases run; exact .filtered level (lines_curtLineChange s level)
  | replyWindowClose chars => cases run; exact .kept (lines_windowClose s chars)
  | allstop => exact event .allstop nofun rfl
  | clockAdvance => exact event .clock nofun rfl
  | periodTimerExpiry => exact event .period nofun rfl
  | publish => exact event .publish nofun rfl
  | cycleTimerExpiry => exact event .cycle nofun rfl
  | linkResetHoldEnd => exact event .hold nofun rfl
  | lapse b => exact event (.lapse b) nofun rfl
  | reversalTimerExpiry b => exact event (.reversal b) nofun rfl
  | loadStaleTransition => exact event .loadStale nofun rfl
  | nop | status | clearStatus | setAttnMask | readClock | setClock | setTuning | softReset | openOrder | amend | lock | unlock
  | close | retire | lookup | findByBay | findByTag | findByState | profileRead | profilePreset | profileDrop | setCeiling
  | setWorkingCap | setCurtailCap | setFallbackCap | setFeeder | reportLoad | readBudget | enableBays | linkReset | readBay
  | rearm | curtail | allocateNow => exact command rfl

/-! ### The port (R172, R179) -/

theorem portSound_lines (s : State) : PortSound (lines s) ↔ PortSound s := Iff.rfl

theorem PortSound.frame (h : PortSound s) (same : lines t = lines s) : PortSound t :=
  (portSound_lines t).1 (same ▸ (portSound_lines s).2 h)

theorem PortSound.filtered (h : PortSound s) (level : Bool) : PortSound (filtered s level) := by
  unfold Port.filtered
  split
  · exact h
  · exact h

theorem PortSound.linesStep (h : PortSound s) (queues : QueuesSound s) (moved : LinesStep s t) : PortSound t := by
  cases moved with
  | kept same => exact PortSound.frame h same
  | answered answered =>
    obtain ⟨code, payload, u, fits, -, rfl⟩ := answered
    obtain ⟨most, refused⟩ := fits queues
    exact ⟨most, refused, fun _ => rfl⟩
  | reset z response rx _ sampled =>
    refine PortSound.frame (s := { z with lineState := z.curt.level }) ⟨?_, ?_, fun _ => rx⟩ sampled
    · simp [response]
    · simp [response]
  | filtered level same => exact PortSound.frame (PortSound.filtered h level) same

/-- A part held in reset stands still but for its CURT filter. -/
theorem PortSound.tick (h : PortSound s) : PortSound (tick s) := by
  unfold Machine.tick
  split
  · exact h
  · unfold passTime
    refine foldl_keeps PortSound _ (fun u e hu => ?_) _ _ (PortSound.frame (t := { elapse s with freeIndex := _ }) ?_ (lines_elapse s))
    · split
      · refine PortSound.frame ?_ (lines_takeEvent u e)
        split
        · exact PortSound.filtered hu _
        · exact hu
      · exact hu
    · exact h

/-! ### The line state (R148, R149) -/

theorem lineSound_lines (s : State) : LineSound (lines s) ↔ LineSound s := Iff.rfl

theorem LineSound.frame (h : LineSound s) (same : lines t = lines s) : LineSound t :=
  (lineSound_lines t).1 (same ▸ (lineSound_lines s).2 h)

theorem LineSound.filtered (h : LineSound s) (level : Bool) : LineSound (filtered s level) := by
  obtain ⟨-, counts⟩ := h
  unfold Port.filtered
  split
  · next held => exact ⟨fun running => absurd held (by simp [running]), since_settle counts level⟩
  · exact ⟨fun _ => (settle_level _ _).symm, since_settle counts level⟩

theorem LineSound.counted (h : LineSound s) : LineSound { s with curt := s.curt.count } := by
  obtain ⟨follows, counts⟩ := h
  rcases count_cases s.curt with ⟨-, same⟩ | ⟨differs, counted⟩
  · rw [same]
    exact ⟨follows, counts⟩
  · rw [counted]
    exact ⟨follows, fun level => absurd level differs⟩

theorem LineSound.linesStep (h : LineSound s) (moved : LinesStep s t) : LineSound t := by
  cases moved with
  | kept same => exact LineSound.frame h same
  | answered answered =>
    obtain ⟨code, payload, u, -, same, rfl⟩ := answered
    have same' : LineSound u := LineSound.frame h same
    exact same'
  | reset z _ _ filter sampled =>
    have sampledSound : LineSound { z with lineState := z.curt.level } := ⟨fun _ => rfl, filter h.2⟩
    exact LineSound.frame sampledSound sampled
  | filtered level same => exact LineSound.frame (LineSound.filtered h level) same

theorem LineSound.filterTime (h : LineSound s) (held : s.pins.held = true) : LineSound (filterTime s) := by
  have counted := (LineSound.counted h).2
  have notRunning : ¬s.pins.held = false := by simp [held]
  rcases filterTime_cases s with ⟨-, same⟩ | ⟨-, settled⟩
  · rw [same]
    exact ⟨fun running => absurd running notRunning, counted⟩
  · rw [settled]
    exact ⟨fun running => absurd running notRunning, since_settle counted _⟩

theorem LineSound.tick (h : LineSound s) : LineSound (tick s) := by
  unfold Machine.tick
  split
  · next held => exact LineSound.filterTime h held
  · unfold passTime
    refine foldl_keeps LineSound _ (fun u e hu => ?_) _ _
      (LineSound.frame (t := { elapse s with freeIndex := _ }) (LineSound.counted h) (lines_elapse s))
    split
    · refine LineSound.frame ?_ (lines_takeEvent u e)
      split
      · exact LineSound.filtered hu _
      · exact hu
    · exact hu

/-! ### The edges at the pins (R171, R172) -/

/-- Outside a transfer no frame is half received (R172). -/
def FrameIdle (s : State) : Prop := receiving s = false → s.rx = .empty

theorem frameIdle_beginTransfer (idle : FrameIdle s) : FrameIdle (beginTransfer s) := by
  unfold beginTransfer
  repeat' split
  · next high _ => exact fun _ => idle (by simp [receiving, high])
  · exact fun _ => rfl
  · exact idle

theorem frameIdle_endTransfer (idle : FrameIdle s) : FrameIdle (endTransfer s) := by
  unfold endTransfer
  split
  · exact fun _ => rfl
  · next closed => exact fun _ => idle (Bool.not_eq_true _ ▸ closed)

theorem frameIdle_sampleMosi (idle : FrameIdle s) (mosi : Bool) : FrameIdle (sampleMosi mosi s) := by
  unfold sampleMosi
  split
  · next taken =>
    dsimp only
    split
    · exact fun closed => absurd taken (Bool.not_eq_true _ ▸ closed)
    · exact fun closed => absurd taken (Bool.not_eq_true _ ▸ closed)
  · exact idle

theorem frameIdle_driveMiso (idle : FrameIdle s) : FrameIdle (driveMiso s) := by
  unfold driveMiso
  split
  · exact idle
  · exact idle

/-- The end of a reset comes on a part that is held, and so outside a transfer. -/
theorem frameIdle_leaveReset (idle : FrameIdle s) {phase : ResetPhase} (holds : phase = .under → s.pins.held = true) (pins : Pins)
    (row : Instr) : FrameIdle (leaveReset phase pins row s) := by
  unfold leaveReset
  split
  · next under => exact fun _ => idle (by simp [receiving, holds under])
  · exact idle

theorem frameIdle_pinEdge (idle : FrameIdle s) (e : PinEdge) : FrameIdle (pinEdge e s) := by
  cases e with
  | csFall => exact frameIdle_beginTransfer idle
  | csRise => exact frameIdle_endTransfer idle
  | sclkRise mosi => exact frameIdle_sampleMosi idle mosi
  | sclkFall => exact frameIdle_driveMiso idle
  | resetFall | supplyOn => exact fun _ => rfl
  | resetRise => exact frameIdle_leaveReset idle (fun under => by simp [Pins.held, under]) _ _
  | supplyReady => exact frameIdle_leaveReset idle (fun under => by simp [Pins.held, under]) _ _
  | curt level => exact idle

theorem PortSound.pinEdge (h : PortSound s) (e : PinEdge) : PortSound (pinEdge e s) := by
  obtain ⟨most, refused, idle⟩ := h
  have response : (Machine.pinEdge e s).response = s.response := by
    obtain ⟨_, _, _, _, writes⟩ := pinEdge_writes e s
    rw [writes]
  exact ⟨response ▸ most, response ▸ refused, frameIdle_pinEdge idle e⟩

/-- A drive of the CURT line starts the filter anew where it changes the line (R149). -/
theorem since_drive {f : CurtFilter} (counts : f.line = f.level → f.since = 0) (line : Bool) :
    (f.drive line).line = (f.drive line).level → (f.drive line).since = 0 := by
  unfold CurtFilter.drive
  split
  · exact counts
  · exact fun _ => rfl

/-- An edge of the port's own lines holds no reset and ends none, and does not move CURT. -/
theorem held_pinEdge {e : PinEdge} (port : PortEdge e) :
    (pinEdge e s).pins.held = s.pins.held ∧ (pinEdge e s).curt = s.curt := by
  rcases port with rfl | rfl | rfl | ⟨mosi, rfl⟩
  · simp only [pinEdge, beginTransfer]
    repeat' split
    all_goals exact ⟨rfl, rfl⟩
  · simp only [pinEdge, endTransfer]
    split
    all_goals exact ⟨rfl, rfl⟩
  · simp only [pinEdge, driveMiso]
    split
    all_goals exact ⟨rfl, rfl⟩
  · simp only [pinEdge, sampleMosi]
    repeat' split
    all_goals exact ⟨rfl, rfl⟩

theorem lineSound_of_held (held : s.pins.held = true) (counts : s.curt.line = s.curt.level → s.curt.since = 0) : LineSound s :=
  ⟨fun running => absurd held (by simp [running]), counts⟩

theorem LineSound.leaveReset (h : LineSound s) (phase : ResetPhase) {pins : Pins} (held : pins.held = true) (row : Instr) :
    LineSound (leaveReset phase pins row s) := by
  unfold Machine.leaveReset
  split
  · exact lineSound_of_held held h.2
  · exact h

theorem LineSound.portEdge (h : LineSound s) {e : PinEdge} (port : PortEdge e) : LineSound (pinEdge e s) := by
  obtain ⟨follows, counts⟩ := h
  obtain ⟨held, curt⟩ := held_pinEdge (s := s) port
  have lineState : (Machine.pinEdge e s).lineState = s.lineState := by
    obtain ⟨_, _, _, _, writes⟩ := pinEdge_writes e s
    rw [writes]
  refine ⟨fun running => ?_, by rwa [curt]⟩
  rw [lineState, curt]
  exact follows (held ▸ running)

/-- An edge of RESET_N or the supply leaves the part held, or does nothing. -/
theorem LineSound.pinEdge (h : LineSound s) (e : PinEdge) : LineSound (pinEdge e s) := by
  cases e with
  | resetFall => exact lineSound_of_held (by simp [Machine.pinEdge, enterReset, Pins.held, Pins.afterReset]) h.2
  | supplyOn => exact lineSound_of_held (by simp [Machine.pinEdge, enterReset, Pins.held, Pins.afterReset]) h.2
  | resetRise => exact LineSound.leaveReset h _ (by simp [Pins.held]) _
  | supplyReady => exact LineSound.leaveReset h _ (by simp [Pins.held]) _
  | curt level => exact ⟨fun running => (h.1 running).trans (drive_level _ _).symm, since_drive h.2 level⟩
  | csFall | csRise | sclkFall => exact LineSound.portEdge h (by simp [PortEdge])
  | sclkRise mosi => exact LineSound.portEdge h (by simp [PortEdge])

/-! ### Every step -/

theorem PortSound.step (h : PortSound s) (queues : QueuesSound s) (run : step s = .next t) : PortSound t := by
  unfold Machine.step at run
  split at run
  · cases run; exact PortSound.tick h
  · next c rest _ =>
    have taken : PortSound { s with pending := rest } := h
    have queues' : QueuesSound { s with pending := rest } := queues
    exact PortSound.linesStep taken queues' (linesStep_exec run)

theorem LineSound.step (h : LineSound s) (run : step s = .next t) : LineSound t := by
  unfold Machine.step at run
  split at run
  · cases run; exact LineSound.tick h
  · next c rest _ =>
    have taken : LineSound { s with pending := rest } := h
    exact LineSound.linesStep taken (linesStep_exec run)

end

/-- Settles O8: a step may do to the lines what `LinesStep` lists, and an edge at the pins keeps both forms. -/
theorem portStaysSound : Obligations.PortStaysSound :=
  ⟨fun _ _ queues port run => PortSound.step port queues run, fun _ e port => PortSound.pinEdge port e,
    fun _ _ line run => LineSound.step line run, fun _ e line => LineSound.pinEdge line e⟩

end Sys2Proof.Port
end

section
/-! HEAT and COOL on one bay (R167 to R169): what may happen to the mode a bay runs, to its reversal timer and to the grant it is
offered, and what keeps the two modes apart there. -/

namespace Sys2Proof.ModeReversal

open Sys2Proof.Machine Sys2Proof.Safety Sys2Proof.OrderTable

/-- A bay that is offered nothing against the mode it runs or rests from: what `ReversalSound` says of one bay. -/
structure Parted (x : Bay) : Prop where
  remembers : ∀ r ∈ x.reversal, r.mode ≠ .off
  rested : x.applied.mode ≠ .off → x.reversal = none
  offered : x.pending.mode ≠ .off →
    x.applied.mode ≠ x.pending.mode.opposite ∧ ∀ r ∈ x.reversal, r.mode ≠ x.pending.mode.opposite

/-- The bay keeps its mode and its timer; or it is switched OFF, where `drops` allows that. -/
def Coasts (drops : Prop) (dead : Nat) (x y : Bay) : Prop :=
  (y.applied.mode = x.applied.mode ∧ y.reversal = x.reversal)
    ∨ (drops ∧ y.applied.mode = .off ∧ y.reversal = reversalAfter dead x.applied.mode .off x.reversal)

/-- The bay coasts, and its offer is kept or withdrawn. -/
structure Calms (drops : Prop) (dead : Nat) (x y : Bay) : Prop where
  coasts : Coasts drops dead x y
  pending : y.pending.mode = x.pending.mode ∨ y.pending.mode = .off

theorem opposite_ne_off {m : Mode} (runs : m ≠ .off) : m.opposite ≠ .off := by
  cases m with
  | off => exact absurd rfl runs
  | heat => exact nofun
  | cool => exact nofun

theorem ne_opposite {m : Mode} (runs : m ≠ .off) : m ≠ m.opposite := by
  cases m with
  | off => exact absurd rfl runs
  | heat => exact nofun
  | cool => exact nofun

/-- Of a mode that is neither OFF nor the opposite of another there is only that other. -/
theorem eq_of_ne_opposite {m n : Mode} (runs : m ≠ .off) (runs' : n ≠ .off) (apart : m ≠ n.opposite) : m = n := by
  cases m with
  | off => exact absurd rfl runs
  | heat =>
    cases n with
    | off => exact absurd rfl runs'
    | heat => rfl
    | cool => exact absurd rfl apart
  | cool =>
    cases n with
    | off => exact absurd rfl runs'
    | heat => exact absurd rfl apart
    | cool => rfl

section
variable {drops : Prop} {dead : Nat} {x y z : Bay} {v : SnapBay}

theorem Coasts.refl (drops : Prop) (dead : Nat) (x : Bay) : Coasts drops dead x x := .inl ⟨rfl, rfl⟩

theorem Calms.refl (drops : Prop) (dead : Nat) (x : Bay) : Calms drops dead x x := ⟨Coasts.refl drops dead x, .inl rfl⟩

theorem reversalAfter_off (dead : Nat) (timer : Option Reversal) : reversalAfter dead .off .off timer = timer := rfl

theorem reversalAfter_same (dead : Nat) (mode : Mode) (timer : Option Reversal) : reversalAfter dead mode mode timer = timer := by
  cases mode with
  | off => rfl
  | heat => rfl
  | cool => rfl

/-- A bay that loses its mode rests from it for the whole dead time (R167). -/
theorem reversalAfter_lost (dead : Nat) {mode : Mode} (ran : mode ≠ .off) (timer : Option Reversal) :
    reversalAfter dead mode .off timer = some { mode := mode, left := dead * 16000000 } := by
  cases mode with
  | off => exact absurd rfl ran
  | heat => rfl
  | cool => rfl

/-- A bay that takes a mode up rests no more (R167). -/
theorem reversalAfter_gained (dead : Nat) {mode : Mode} (runs : mode ≠ .off) (timer : Option Reversal) :
    reversalAfter dead .off mode timer = none := by
  cases mode with
  | off => exact absurd rfl runs
  | heat => rfl
  | cool => rfl

theorem Coasts.trans (first : Coasts drops dead x y) (second : Coasts drops dead y z) : Coasts drops dead x z := by
  rcases first with ⟨mode, timer⟩ | ⟨allowed, off, timer⟩
  · unfold Coasts
    rw [← mode, ← timer]
    exact second
  · refine .inr ?_
    rcases second with ⟨mode', timer'⟩ | ⟨-, off', timer'⟩
    · exact ⟨allowed, mode'.trans off, timer'.trans timer⟩
    · rw [off, reversalAfter_off] at timer'
      exact ⟨allowed, off', timer'.trans timer⟩

/-- An OFF bay that coasts stays OFF with its timer. -/
theorem Coasts.of_off (h : Coasts drops dead x y) (off : x.applied.mode = .off) :
    y.applied.mode = .off ∧ y.reversal = x.reversal := by
  rcases h with ⟨mode, timer⟩ | ⟨-, off', timer⟩
  · exact ⟨mode.trans off, timer⟩
  · rw [off, reversalAfter_off] at timer
    exact ⟨off', timer⟩

/-- A timer after a bay has coasted was there before, or has the mode that the bay ran. -/
theorem Coasts.remembered (h : Coasts drops dead x y) {r : Reversal} (mem : r ∈ y.reversal) :
    r ∈ x.reversal ∨ (x.applied.mode ≠ .off ∧ r.mode = x.applied.mode) := by
  rcases h with ⟨-, timer⟩ | ⟨-, -, timer⟩
  · exact .inl (timer ▸ mem)
  · by_cases off : x.applied.mode = .off
    · rw [off, reversalAfter_off] at timer
      exact .inl (timer ▸ mem)
    · rw [reversalAfter_lost dead off] at timer
      obtain rfl := Option.some.inj (timer.symm.trans mem)
      exact .inr ⟨off, rfl⟩

theorem Coasts.mode (h : Coasts drops dead x y) : y.applied.mode = x.applied.mode ∨ y.applied.mode = .off := by
  rcases h with ⟨mode, -⟩ | ⟨-, off, -⟩
  · exact .inl mode
  · exact .inr off

theorem Parted.calms (h : Parted x) (calms : Calms drops dead x y) : Parted y := by
  obtain ⟨remembers, rested, offered⟩ := h
  obtain ⟨coasts, pending⟩ := calms
  refine ⟨fun r mem => ?_, fun runs => ?_, fun offers => ?_⟩
  · rcases coasts.remembered mem with before | ⟨ran, mode⟩
    · exact remembers r before
    · exact mode ▸ ran
  · rcases coasts with ⟨mode, timer⟩ | ⟨-, off, -⟩
    · exact timer.trans (rested (mode ▸ runs))
    · exact absurd off runs
  · rcases pending with same | withdrawn
    · rw [same] at offers ⊢
      obtain ⟨applied, timer⟩ := offered offers
      refine ⟨?_, fun r mem => ?_⟩
      · rcases coasts.mode with mode | off
        · exact mode ▸ applied
        · exact off ▸ (opposite_ne_off offers).symm
      · rcases coasts.remembered mem with before | ⟨-, mode⟩
        · exact timer r before
        · exact mode ▸ applied
    · exact absurd withdrawn offers

/-- What a snapshot saw of a bay covers the bay after it has coasted. -/
theorem SeenBy.calms (h : SeenBy v x) (calms : Calms drops dead x y) : SeenBy v y := by
  obtain ⟨pending, applied, timer⟩ := h
  refine ⟨?_, ?_, fun r mem => ?_⟩
  · rcases calms.pending with same | withdrawn
    · exact same ▸ pending
    · exact .inl withdrawn
  · rcases calms.coasts.mode with same | off
    · exact same ▸ applied
    · exact .inl off
  · rcases calms.coasts.remembered mem with before | ⟨ran, mode⟩
    · exact timer r before
    · rw [mode]
      exact .inr (applied.resolve_left ran)

/-! ### What the operations on a bay record do -/

theorem calms_zeroed (drops : Prop) (dead : Nat) (x : Bay) : Calms drops dead x (x.offer .off 0) :=
  ⟨.inl ⟨by rw [offer_applied], offer_reversal x .off 0⟩, .inr (offer_pending_mode x .off 0)⟩

theorem calms_drop (allowed : drops) (dead : Nat) (x : Bay) : Calms drops dead x (x.drop dead) :=
  ⟨.inr ⟨allowed, rfl, rfl⟩, .inl rfl⟩

theorem calms_enable (drops : Prop) (dead : Nat) (x : Bay) (listed : Bool) : Calms drops dead x (x.enable listed) := by
  unfold Bay.enable
  split
  all_goals exact ⟨.inl ⟨rfl, rfl⟩, .inl rfl⟩

theorem calms_linkReset (allowed : drops) (dead : Nat) (x : Bay) : Calms drops dead x (x.linkReset dead) := by
  have dropped := calms_drop allowed dead x
  unfold Bay.linkReset
  dsimp only
  split
  · exact dropped
  · exact ⟨dropped.coasts, dropped.pending⟩

/-- The confirmed grant becomes the applied one, or the modes and the timer stay (R130). -/
theorem echo_cases (x : Bay) (dead echo seqSent : Nat) :
    Calms True dead x (x.echo dead echo seqSent)
      ∨ x.echo dead echo seqSent = x.apply dead x.pending (confirmedLapse x.pending) := by
  unfold Bay.echo
  split
  · exact .inr rfl
  · split
    · exact .inl ⟨.inl ⟨rfl, rfl⟩, .inl rfl⟩
    · exact .inl (Calms.refl True dead x)

/-- A pending grant that is confirmed meets an OFF bay or its own mode (R169). -/
theorem Parted.applied_of_offered (h : Parted x) (offers : x.pending.mode ≠ .off) :
    x.applied.mode = .off ∨ x.applied.mode = x.pending.mode := by
  by_cases off : x.applied.mode = .off
  · exact .inl off
  · exact .inr (eq_of_ne_opposite off offers (h.offered offers).1)

/-- A grant applied over the one that faces it not: the bay then rests no more. -/
theorem Parted.reversal_of_confirmed (h : Parted x) (offers : x.pending.mode ≠ .off) (dead : Nat) :
    reversalAfter dead x.applied.mode x.pending.mode x.reversal = none := by
  rcases h.applied_of_offered offers with off | same
  · rw [off]
    exact reversalAfter_gained dead offers _
  · rw [same, reversalAfter_same]
    exact h.rested (same ▸ offers)

/-- A confirmation of OFF switches the bay OFF, as a lapse does. -/
theorem calms_confirmed_off (off : x.pending.mode = .off) (dead : Nat) (lapse : Option Nat) :
    Calms True dead x (x.apply dead x.pending lapse) := by
  refine ⟨.inr ⟨trivial, off, ?_⟩, .inl rfl⟩
  unfold Bay.apply
  rw [off]

theorem Parted.echo (h : Parted x) (dead echo seqSent : Nat) : Parted (x.echo dead echo seqSent) := by
  rcases echo_cases x dead echo seqSent with calms | confirmed
  · exact h.calms calms
  by_cases off : x.pending.mode = .off
  · exact confirmed ▸ h.calms (calms_confirmed_off off dead _)
  · have rested : (x.echo dead echo seqSent).reversal = none := confirmed ▸ h.reversal_of_confirmed off dead
    have mode : (x.echo dead echo seqSent).applied.mode = x.pending.mode := confirmed ▸ rfl
    have pending : (x.echo dead echo seqSent).pending.mode = x.pending.mode := confirmed ▸ rfl
    refine ⟨by simp [rested], fun _ => rested, fun _ => ⟨?_, by simp [rested]⟩⟩
    rw [mode, pending]
    exact ne_opposite off

theorem SeenBy.echo (seen : SeenBy v x) (h : Parted x) (dead echo seqSent : Nat) : SeenBy v (x.echo dead echo seqSent) := by
  rcases echo_cases x dead echo seqSent with calms | confirmed
  · exact SeenBy.calms seen calms
  by_cases off : x.pending.mode = .off
  · exact confirmed ▸ SeenBy.calms seen (calms_confirmed_off off dead _)
  · have rested : (x.echo dead echo seqSent).reversal = none := confirmed ▸ h.reversal_of_confirmed off dead
    have mode : (x.echo dead echo seqSent).applied.mode = x.pending.mode := confirmed ▸ rfl
    have pending : (x.echo dead echo seqSent).pending.mode = x.pending.mode := confirmed ▸ rfl
    have covered := seen.1.resolve_left off
    exact ⟨.inr (pending.trans covered), .inr (.inr (mode.trans covered)), by simp [rested]⟩

/-- A timer that has gone leaves the rest of a parted bay. -/
theorem Parted.rested_bay (h : Parted x) : Parted { x with reversal := none } :=
  ⟨by simp, fun _ => rfl, fun offers => ⟨(h.offered offers).1, by simp⟩⟩

theorem SeenBy.rested_bay (h : SeenBy v x) : SeenBy v { x with reversal := none } := ⟨h.1, h.2.1, by simp⟩

theorem mem_elapse_reversal {r : Reversal} (mem : r ∈ x.elapse.reversal) : ∃ q ∈ x.reversal, r.mode = q.mode := by
  obtain ⟨q, before, rfl⟩ := Option.map_eq_some_iff.1 mem
  exact ⟨q, before, rfl⟩

theorem Parted.elapse (h : Parted x) : Parted x.elapse := by
  obtain ⟨remembers, rested, offered⟩ := h
  refine ⟨fun r mem => ?_, fun runs => ?_, fun offers => ⟨(offered offers).1, fun r mem => ?_⟩⟩
  · obtain ⟨q, before, mode⟩ := mem_elapse_reversal mem
    exact mode ▸ remembers q before
  · exact congrArg (Option.map _) (rested runs)
  · obtain ⟨q, before, mode⟩ := mem_elapse_reversal mem
    exact mode ▸ (offered offers).2 q before

theorem SeenBy.elapse (h : SeenBy v x) : SeenBy v x.elapse := by
  obtain ⟨pending, applied, timer⟩ := h
  refine ⟨pending, applied, fun r mem => ?_⟩
  obtain ⟨q, before, mode⟩ := mem_elapse_reversal mem
  exact mode ▸ timer q before

/-- A bay is offered a mode that the guard does not bar on what was seen of it (R168). -/
theorem Parted.offer (h : Parted x) (seen : SeenBy v x) {mode : Mode} (free : mode = .off ∨ guardBars mode v = false) (steps : Nat) :
    Parted (x.offer mode steps) := by
  obtain ⟨remembers, rested, -⟩ := h
  refine ⟨by rwa [offer_reversal], by rwa [offer_applied, offer_reversal], fun offers => ?_⟩
  rw [offer_pending_mode] at offers
  rw [offer_pending_mode, offer_applied, offer_reversal]
  have bars := free.resolve_left offers
  simp only [guardBars, Bool.and_eq_false_iff, Bool.or_eq_false_iff, bne_eq_false_iff_eq, beq_eq_false_iff_ne] at bars
  obtain ⟨⟨applied, pending⟩, resting⟩ := bars.resolve_left offers
  obtain ⟨-, seenApplied, seenTimer⟩ := seen
  refine ⟨?_, fun r mem => ?_⟩
  · rcases seenApplied with off | same | same
    · exact off ▸ (opposite_ne_off offers).symm
    · exact same ▸ applied
    · exact same ▸ pending
  · rcases seenTimer r mem with same | same | same
    · exact fun faces => resting (faces ▸ same)
    · exact same ▸ applied
    · exact same ▸ pending

end

end Sys2Proof.ModeReversal
end

section
/-! What each operation does to the modes that the bays run and to their reversal timers (R167 to R169). -/

namespace Sys2Proof.ModeReversal

open Sys2Proof.Machine Sys2Proof.Safety Sys2Proof.OrderTable Sys2Proof.Allocation Sys2Proof.Commitment Sys2Proof.Publishing

/-- The bays are parted, and the pass in flight, if there is one, saw what they hold, with one head to a bay. -/
structure GuardSound (s : State) : Prop where
  parted : ∀ b, Parted (bayAt s b)
  seen : ∀ p ∈ s.pass, ∀ b : Fin 32, SeenBy p.snap.bays[b] (bayAt s b)
  ascend : HeadsSound s

/-- `GuardSound` is what the statements speak of, bay by bay. -/
theorem guardSound_iff (s : State) : GuardSound s ↔ ReversalSound s ∧ HeadsSound s := by
  constructor
  · rintro ⟨parted, seen, ascend⟩
    exact ⟨⟨fun b => ⟨(parted b).remembers, (parted b).rested, (parted b).offered⟩, seen⟩, ascend⟩
  · rintro ⟨⟨parted, seen⟩, ascend⟩
    exact ⟨fun b => ⟨(parted b).1, (parted b).2.1, (parted b).2.2⟩, seen, ascend⟩

/-- What leads from `o` to `t` keeps the guard sound, and every bay coasts; `drops` says whether a bay may be switched OFF. -/
structure Rests (drops : Prop) (o t : State) : Prop where
  sound : GuardSound o → GuardSound t
  coasts : ∀ b, Coasts drops o.tuning.dead (bayAt o b) (bayAt t b)
  tuning : t.tuning = o.tuning

theorem Rests.refl (drops : Prop) (s : State) : Rests drops s s := ⟨id, fun _ => Coasts.refl _ _ _, rfl⟩

section
variable {drops : Prop} {o s t : State}

/-- Bays that calm down, with no pass in flight but that of before. -/
theorem Rests.covered (h : Rests drops o s) (tuning : t.tuning = s.tuning) (pass : ∀ p ∈ t.pass, ∃ q ∈ s.pass, p.snap = q.snap)
    (calms : ∀ b, Calms drops s.tuning.dead (bayAt s b) (bayAt t b)) : Rests drops o t := by
  obtain ⟨sound, coasts, tuning'⟩ := h
  refine ⟨fun before => ?_, fun b => (coasts b).trans (tuning' ▸ (calms b).coasts), tuning.trans tuning'⟩
  obtain ⟨parted, seen, ascend⟩ := sound before
  refine ⟨fun b => (parted b).calms (calms b), fun p flying b => ?_, fun p flying => ?_⟩
  · obtain ⟨q, mem, snap⟩ := pass p flying
    exact SeenBy.calms (snap ▸ seen q mem b) (calms b)
  · obtain ⟨q, mem, snap⟩ := pass p flying
    exact snap ▸ ascend q mem

theorem Rests.samePass (h : Rests drops o s) (tuning : t.tuning = s.tuning) (pass : t.pass = s.pass)
    (calms : ∀ b, Calms drops s.tuning.dead (bayAt s b) (bayAt t b)) : Rests drops o t :=
  h.covered tuning (fun p flying => ⟨p, pass ▸ flying, rfl⟩) calms

/-- A state with the bays, the pass and the tuning values of another. -/
theorem Rests.frame (h : Rests drops o s) (bays : t.bays = s.bays) (pass : t.pass = s.pass) (tuning : t.tuning = s.tuning) :
    Rests drops o t := by
  refine h.samePass tuning pass fun b => ?_
  have same : bayAt t b = bayAt s b := congrArg (fun bays : Vector Bay 32 => bays[b]) bays
  exact same ▸ Calms.refl _ _ _

/-! ### The shared operations -/

theorem Rests.answer (h : Rests drops o s) (code : RespCode) (payload : List Byte) : Rests drops o (answer code payload s) :=
  h.frame rfl rfl rfl

theorem Rests.refuse (h : Rests drops o s) (code : RespCode) : Rests drops o (refuse code s) := h.frame rfl rfl rfl

theorem Rests.raise (h : Rests drops o s) (f : EventFlag) : Rests drops o (raise f s) := h.frame rfl rfl rfl

theorem Rests.setBay (h : Rests drops o s) {b : Fin 32} {x : Bay} (calms : Calms drops s.tuning.dead (bayAt s b) x) :
    Rests drops o (setBay s b x) := by
  refine h.samePass rfl rfl fun a => ?_
  rw [bayAt_setBay]
  split
  · next same => exact same ▸ calms
  · exact Calms.refl _ _ _

theorem Rests.mapBays (h : Rests drops o s) {f : Fin 32 → Bay → Bay} (calms : ∀ b x, Calms drops s.tuning.dead x (f b x)) :
    Rests drops o (mapBays f s) := by
  refine h.samePass (mapBays_tuning f s) (mapBays_pass f s) fun b => ?_
  rw [bayAt_mapBays]
  exact calms b _

theorem Rests.zeroPending (h : Rests drops o s) (b : Fin 32) : Rests drops o (zeroPending s b) := h.setBay (calms_zeroed _ _ _)

theorem Rests.promoteHead (h : Rests drops o s) (b : Fin 32) : Rests drops o (promoteHead s b) := by
  obtain ⟨_, writes⟩ := promoteHead_writes s b
  rw [writes]
  exact h.frame rfl rfl rfl

theorem Rests.closeRecord (h : Rests drops o s) (i : Fin 48) (kind : OutcomeKind) : Rests drops o (closeRecord s i kind) := by
  obtain ⟨_, writes⟩ := closeRecord_writes s i kind
  rw [writes]
  exact h.frame rfl rfl rfl

theorem Rests.leaveQueue (h : Rests drops o s) (b : Fin 32) (gone : List (Fin 48)) : Rests drops o (leaveQueue s b gone) := by
  have left (q : List (Fin 48)) : Rests drops o (setQueue s b q) := h.frame rfl rfl rfl
  unfold Machine.leaveQueue
  dsimp only
  repeat' split
  · exact left _
  · exact ((left _).zeroPending b).promoteHead b
  · exact left _

theorem Rests.closeOrder (h : Rests drops o s) (i : Fin 48) (kind : OutcomeKind) : Rests drops o (closeOrder s i kind) := by
  unfold Machine.closeOrder
  split
  · exact h
  · exact ((h.closeRecord i kind).leaveQueue _ _).raise _

theorem Rests.expire (h : Rests drops o s) : Rests drops o (expire s) := by
  unfold Machine.expire
  dsimp only
  split
  · exact h
  · refine Rests.raise (foldl_keeps (Rests drops o) _ (fun _ b hu => hu.leaveQueue b _) _ _ ?_) _
    refine foldl_keeps (Rests drops o) _ (fun u i hu => ?_) _ _ h
    split
    · exact hu
    · exact hu.closeRecord _ _

/-! ### Passes (R73, R74) -/

theorem Rests.abandon (h : Rests drops o s) (mark : Bool) : Rests drops o { s with pass := none, passMark := mark } :=
  h.covered rfl nofun fun _ => Calms.refl _ _ _

/-- A snapshot has seen the bay it is taken of. -/
theorem seenBy_snapBay (s : State) (b : Fin 32) : SeenBy (snapBay s b) (bayAt s b) :=
  ⟨.inr rfl, .inr (.inl rfl), fun _ mem => .inl (Option.map_eq_some_iff.2 ⟨_, mem, rfl⟩)⟩

/-- A pass that starts has seen the bays as they are, whatever the one before it saw. -/
theorem guardSound_startPass (parted : ∀ b, Parted (bayAt s b)) : GuardSound (startPass s) := by
  have started := (startPass_spec s).1
  generalize startPass s = t at started ⊢
  rw [started]
  refine ⟨parted, fun p flying b => ?_, fun p flying => ?_⟩
  · obtain rfl : { snap := takeSnapshot s, age := 0 } = p := Option.some.inj flying
    exact (takeSnapshot_bays s b).symm ▸ seenBy_snapBay s b
  · obtain rfl : { snap := takeSnapshot s, age := 0 } = p := Option.some.inj flying
    exact takeSnapshot_heads_ascend s

theorem Rests.startPass (h : Rests drops o s) : Rests drops o (startPass s) := by
  refine ⟨fun before => guardSound_startPass (h.sound before).parted, ?_, ?_⟩
  all_goals
    have started := (startPass_spec s).1
    generalize Machine.startPass s = t at started ⊢
    rw [started]
  · exact h.coasts
  · exact h.tuning

theorem Rests.requestPass (h : Rests drops o s) : Rests drops o (requestPass s) := by
  unfold Machine.requestPass
  split
  · exact h.frame rfl rfl rfl
  · exact h.startPass

/-! ### The bay link (R123 to R142) -/

theorem Rests.beginAllstop (h : Rests drops o s) : Rests drops o (beginAllstop s) := by
  obtain ⟨_, _, _, writes⟩ := beginAllstop_writes s
  rw [writes]
  exact h.frame rfl rfl rfl

theorem Rests.requestAllstop (h : Rests drops o s) (list : Word) : Rests drops o (requestAllstop list s) := by
  obtain ⟨_, _, _, _, _, _, writes⟩ := requestAllstop_writes list s
  rw [writes]
  exact h.frame rfl rfl rfl

theorem Rests.goOn (h : Rests drops o s) (n : Nat) : Rests drops o (goOn s n) := by
  obtain ⟨_, _, _, _, _, _, _, writes⟩ := goOn_writes s n
  rw [writes]
  exact h.frame rfl rfl rfl

theorem Rests.cycleExpiry (h : Rests drops o s) : Rests drops o (cycleExpiry s) := by
  have restarted : Rests drops o { s with cycleTimer := Config.second } := h.frame rfl rfl rfl
  unfold Machine.cycleExpiry
  dsimp only
  split
  · exact restarted.frame rfl rfl rfl
  · exact (restarted.goOn 0).frame rfl rfl rfl

theorem Rests.sendAllstop (h : Rests drops o s) : Rests drops o (sendAllstop s) := by
  have sent : Rests drops o { s with sending := none } := h.frame rfl rfl rfl
  unfold Machine.sendAllstop
  dsimp only
  repeat' split
  · exact sent.beginAllstop
  · exact sent.goOn _
  · exact h.beginAllstop

/-- A hold drops the applied grants (R139). -/
theorem Rests.beginHold (h : Rests True o s) : Rests True o (beginHold s) := by
  have idle : Rests True o { s with exchange := none, cycle := none, allstop := none, sending := none, hold := some holdTime } :=
    h.frame rfl rfl rfl
  exact idle.mapBays fun _ x => calms_linkReset trivial s.tuning.dead x

theorem Rests.holdEnd (h : Rests drops o s) : Rests drops o (holdEnd s) := by
  have ended : Rests drops o (Machine.raise .linkResetDone { s with hold := none }) := h.frame rfl rfl rfl
  unfold Machine.holdEnd
  dsimp only
  repeat' split
  · exact h
  · have begun : Rests drops o { Machine.raise .linkResetDone { s with hold := none } with deferred := false } :=
      ended.frame rfl rfl rfl
    exact begun.goOn 0
  · exact ended

theorem Rests.lapseBay (h : Rests True o s) (b : Fin 32) : Rests True o (lapseBay b s) := by
  unfold Machine.lapseBay
  split
  · exact h.setBay (calms_drop trivial _ _)
  · exact h

/-! ### Trips, arrivals and misses -/

theorem Rests.handleCause (h : Rests drops o s) (b : Fin 32) (c : Cause) : Rests drops o (handleCause b s c) := by
  have tripped (i : Fin 48) (x : Slot) : Rests drops o (setSlot s i x) := h.frame rfl rfl rfl
  unfold Machine.handleCause
  repeat' split
  · exact h
  · exact h
  · exact h.frame rfl rfl rfl
  · exact ((tripped _ _).zeroPending b).raise _
  · exact h

theorem Rests.miss (h : Rests drops o s) (b : Fin 32) : Rests drops o (miss s b) := by
  have counted (n : Nat) (link : LinkState) : Rests drops o (Machine.setBay s b { bayAt s b with misses := n, link := link }) :=
    h.setBay ⟨.inl ⟨rfl, rfl⟩, .inl rfl⟩
  unfold Machine.miss
  dsimp only
  repeat' split
  · exact h
  · exact counted _ _
  · exact ((counted _ _).raise _).handleCause b _
  · exact counted _ _
  · exact ((counted _ _).raise _).handleCause b _
  · exact counted _ _

/-- What follows the record of a valid arrival: the protection unit and the order manager (R134, R135). -/
def afterRecord (s : State) (b : Fin 32) (t : Telemetry) (stamp : Option Nat) : State :=
  testUnplug (accumulate (protectArrival s b t) b t.power stamp) b t

theorem validArrival_eq (s : State) (b : Fin 32) (seqSent echo : Nat) (t : Telemetry) :
    validArrival s b seqSent echo t
      = afterRecord (setBay s b ((bayAt s b).arrive s.tuning.dead s.clock echo seqSent t)) b t (bayAt s b).stamp := rfl

/-- It switches no bay OFF. -/
theorem Rests.afterRecord (h : Rests drops o s) (b : Fin 32) (t : Telemetry) (stamp : Option Nat) :
    Rests drops o (afterRecord s b t stamp) := by
  have judged : Rests drops o (protectArrival s b t) := by
    unfold protectArrival
    exact foldl_keeps (Rests drops o) _ (fun _ c hu => hu.handleCause b c) _ _ (h.setBay ⟨.inl ⟨rfl, rfl⟩, .inl rfl⟩)
  have added : Rests drops o (accumulate (protectArrival s b t) b t.power stamp) := by
    obtain ⟨_, writes⟩ := accumulate_writes (protectArrival s b t) b t.power stamp
    rw [writes]
    exact judged.frame rfl rfl rfl
  unfold ModeReversal.afterRecord testUnplug
  repeat' split
  · exact added
  · exact added.closeOrder _ _
  · exact added

/-- A window that closes without a character is a miss (R126). -/
theorem Rests.windowClose_nil (h : Rests drops o s) : Rests drops o (windowClose [] s) := by
  have closed : Rests drops o { s with exchange := none } := h.frame rfl rfl rfl
  unfold windowClose judgeReply
  dsimp only
  repeat' split
  · exact h
  · exact closed.miss _
  · next valid => cases valid
  · exact (closed.miss _).goOn _
  · next valid => cases valid

/-! ### Curtailment (R148 to R153) -/

theorem Rests.curtailBay (h : Rests drops o s) (b : Fin 32) : Rests drops o (curtailBay s b) := by
  have paused : Rests drops o (pauseHead s b) := by
    unfold pauseHead
    split
    · exact h
    · exact h.frame rfl rfl rfl
  unfold Machine.curtailBay
  split
  · exact paused.zeroPending b
  · exact h

theorem Rests.curtailArrival (h : Rests drops o s) : Rests drops o (curtailArrival s) := by
  have paused : Rests drops o (allBays.foldl Machine.curtailBay s) :=
    foldl_keeps (Rests drops o) _ (fun _ b hu => hu.curtailBay b) _ _ h
  have requested := paused.requestAllstop (allstopList s)
  refine Rests.raise ?_ _
  unfold arrivalPass
  split
  · exact (requested.abandon false).startPass
  · exact requested.startPass

theorem Rests.judgeCurtailment (h : Rests drops o s) (before : Bool) : Rests drops o (judgeCurtailment before s) := by
  unfold Machine.judgeCurtailment
  repeat' split
  · exact h
  · exact h.curtailArrival
  · exact h.requestPass.raise _

theorem Rests.curtLineChange (h : Rests drops o s) (level : Bool) : Rests drops o (curtLineChange level s) := by
  have filtered : Rests drops o { s with curt := s.curt.settle level, lineState := level } := h.frame rfl rfl rfl
  unfold Machine.curtLineChange
  dsimp only
  split
  · exact h.frame rfl rfl rfl
  · exact filtered.judgeCurtailment _

theorem Rests.sampleLine (h : Rests drops o s) : Rests drops o (sampleLine s) := by
  have sampled (level : Bool) : Rests drops o { s with lineState := level } := h.frame rfl rfl rfl
  unfold Machine.sampleLine
  split
  · exact (sampled true).curtailArrival
  · exact sampled false

/-! ### The clock, the load record and the period timer -/

theorem Rests.clockAdvance (h : Rests drops o s) : Rests drops o (clockAdvance s) := by
  have advanced (now : Nat) : Rests drops o { s with clock := now, phase := 0 } := h.frame rfl rfl rfl
  unfold Machine.clockAdvance
  split
  · exact h.frame rfl rfl rfl
  · exact (advanced _).expire

theorem Rests.loadStaleTransition (h : Rests drops o s) : Rests drops o (loadStaleTransition s) := by
  unfold Machine.loadStaleTransition
  split
  · exact h
  · exact h.frame rfl rfl rfl

theorem Rests.periodExpiry (h : Rests drops o s) : Rests drops o (periodExpiry s) := by
  have expired : Rests drops o { s with periodTimer := 0 } := h.frame rfl rfl rfl
  exact expired.requestPass

end

/-! ### A publish (R93, R96, R97, R168) -/

section
variable {s : State} {p : Pass}

/-- A pass grants no mode that the guard bars on its snapshot (R168). -/
theorem grant_unbarred {snap : Snapshot} (ascend : snap.heads.Pairwise fun x y => x.bay < y.bay) {r : PassResult}
    (mem : r ∈ passResults snap) : r.mode = .off ∨ guardBars r.mode snap.bays[r.head.bay] = false := by
  obtain ⟨ranked, perm, shares⟩ := exists_ranked snap
  have ranks : Ranked snap ranked := ⟨perm, shares, ascend⟩
  obtain ⟨-, -, reversing, -⟩ := reversalGuardBars snap r ascend mem
  rcases ranks.grant_form mem with ⟨off, -⟩ | ⟨enough, demanded, -, -, modes, runs, free, -⟩
  · exact .inl off
  · have granted : r.mode = r.eval.wanted.toMode := by
      rcases modes with ⟨mode, wanted⟩ | ⟨mode, wanted⟩
      · rw [mode, wanted]; rfl
      · rw [mode, wanted]; rfl
    have unbarred : ¬guardBars r.eval.wanted.toMode snap.bays[r.head.bay] = true := fun bars =>
      Bool.false_ne_true (free.symm.trans (reversing.2 ⟨runs, enough.trans demanded, (guardBars_iff _ _).1 bars⟩))
    exact .inr (granted ▸ Bool.eq_false_iff.2 unbarred)

/-- A publish leaves the offer of a bay, withdraws it, or offers what a result of the pass grants. -/
theorem bayAt_published_cases (s : State) (p : Pass) (b : Fin 32) :
    bayAt (published s p) b = bayAt s b
      ∨ ∃ mode steps, (mode = .off ∨ ∃ r ∈ passResults p.snap, r.head.bay = b ∧ r.mode = mode)
          ∧ bayAt (published s p) b = (bayAt s b).offer mode steps := by
  have bay : bayAt (resultsDone s p).1 b = bayAt s b := by
    obtain ⟨_, _, writes⟩ := applyResults_writes p.snap.now s (passResults p.snap)
    rw [writes]
    rfl
  rw [bayAt_published]
  unfold bayPublished baySettled
  rw [bay]
  repeat' split
  · next r found =>
    exact .inr ⟨_, _, .inr ⟨r, mem_of_applied (List.mem_of_find?_eq_some found), by simpa using List.find?_some found, rfl⟩, rfl⟩
  · exact .inr ⟨.off, 0, .inl rfl, rfl⟩
  · exact .inl rfl
  · exact .inr ⟨.off, 0, .inl rfl, rfl⟩

theorem coasts_published (drops : Prop) (p : Pass) (b : Fin 32) :
    Coasts drops s.tuning.dead (bayAt s b) (bayAt (published s p) b) := by
  rcases bayAt_published_cases s p b with same | ⟨mode, steps, -, offered⟩
  · exact same ▸ Coasts.refl drops _ _
  · exact .inl ⟨by rw [offered, offer_applied], by rw [offered, offer_reversal]⟩

theorem rests_endPass (drops : Prop) (s : State) : Rests drops s (endPass s) := by
  unfold endPass
  split
  · exact ((Rests.refl drops s).abandon false).startPass
  · exact (Rests.refl drops s).abandon _

/-- What a pass publishes on the snapshot it saw leaves every bay parted (R168). -/
theorem parted_published (sound : GuardSound s) (flying : s.pass = some p) (b : Fin 32) : Parted (bayAt (published s p) b) := by
  obtain ⟨parted, seen, ascend⟩ := sound
  rcases bayAt_published_cases s p b with same | ⟨mode, steps, granted, offered⟩
  · exact same ▸ parted b
  · have free : mode = .off ∨ guardBars mode p.snap.bays[b] = false := by
      rcases granted with off | ⟨r, mem, rfl, rfl⟩
      · exact .inl off
      · exact grant_unbarred (ascend p flying) mem
    exact offered ▸ (parted b).offer (seen p flying b) free steps

end

end Sys2Proof.ModeReversal
end

section
/-! The guard stays sound over every command, every event and every idle step (R168, R169), and what a step makes of the mode of a
bay and of its reversal timer (R167). -/

namespace Sys2Proof.ModeReversal

open Sys2Proof.Machine Sys2Proof.Safety Sys2Proof.OrderTable Sys2Proof.Allocation Sys2Proof.Commitment Sys2Proof.Port

section
variable {drops : Prop} {o s t : State}

theorem Rests.trans (first : Rests drops o s) (second : Rests drops s t) : Rests drops o t :=
  ⟨second.sound ∘ first.sound, fun b => (first.coasts b).trans (first.tuning ▸ second.coasts b), second.tuning.trans first.tuning⟩

theorem guardSound_endPass (parted : ∀ b, Parted (bayAt s b)) : GuardSound (endPass s) := by
  unfold endPass
  split
  · exact guardSound_startPass parted
  · exact ⟨parted, nofun, nofun⟩

theorem rests_publishPass (drops : Prop) (s : State) : Rests drops s (publishPass s) := by
  cases flying : s.pass with
  | none =>
    rw [publishPass_idle flying]
    exact Rests.refl drops s
  | some p =>
    rw [publishPass_of_pass flying]
    have tuning : (published s p).tuning = s.tuning := by
      obtain ⟨_, _, _, _, writes⟩ := published_writes (s := s) p
      rw [writes]
    obtain ⟨-, ends, tuning'⟩ := rests_endPass drops (published s p)
    exact ⟨fun sound => guardSound_endPass (parted_published sound flying),
      fun b => (coasts_published drops p b).trans (tuning ▸ ends b), tuning'.trans tuning⟩

/-! ### Resets (R141, R146) -/

/-- A part without a pass, whose bays are OFF, offered nothing and without a timer. -/
structure AllOff (s : State) : Prop where
  pass : s.pass = none
  applied : ∀ b, (bayAt s b).applied.mode = .off
  pending : ∀ b, (bayAt s b).pending.mode = .off
  reversal : ∀ b, (bayAt s b).reversal = none

theorem AllOff.guardSound (h : AllOff s) : GuardSound s := by
  obtain ⟨pass, applied, pending, reversal⟩ := h
  refine ⟨fun b => ⟨by simp [reversal], fun runs => absurd (applied b) runs, fun offers => absurd (pending b) offers⟩, ?_, ?_⟩
  · simp [pass]
  · simp [HeadsSound, pass]

theorem AllOff.sampleLine (h : AllOff s) :
    GuardSound (sampleLine s)
      ∧ ∀ b, (bayAt (Machine.sampleLine s) b).applied.mode = .off ∧ (bayAt (Machine.sampleLine s) b).reversal = none := by
  have sampled := (Rests.refl False s).sampleLine
  refine ⟨sampled.sound h.guardSound, fun b => ?_⟩
  obtain ⟨off, timer⟩ := (sampled.coasts b).of_off (h.applied b)
  exact ⟨off, timer.trans (h.reversal b)⟩

theorem allOff_of_initial (pass : s.pass = none) (bays : ∀ b, bayAt s b = Bay.initial) : AllOff s :=
  ⟨pass, fun b => by rw [bays]; rfl, fun b => by rw [bays]; rfl, fun b => by rw [bays]; rfl⟩

theorem bayAt_reset_bays (h : s.bays = State.reset.bays) (b : Fin 32) : bayAt s b = Bay.initial := by
  simp [bayAt, h, State.reset]

/-! ### A valid arrival (R130, R134) -/

/-- The state with the record of a valid arrival, before the protection unit and the order manager look at it. -/
def recorded (s : State) (b : Fin 32) (seqSent echo : Nat) (t : Telemetry) : State :=
  setBay { s with exchange := none } b ((bayAt s b).arrive s.tuning.dead s.clock echo seqSent t)

/-- The record of an arrival keeps the modes and the timer that the echo leaves. -/
theorem calms_arrive (drops : Prop) (x : Bay) (dead now echo seqSent : Nat) (t : Telemetry) :
    Calms drops dead (x.echo dead echo seqSent) (x.arrive dead now echo seqSent t) := ⟨.inl ⟨rfl, rfl⟩, .inl rfl⟩

theorem guardSound_recorded (sound : GuardSound s) (b : Fin 32) (seqSent echo : Nat) (t : Telemetry) :
    GuardSound (recorded s b seqSent echo t) := by
  obtain ⟨parted, seen, ascend⟩ := sound
  have arrives := calms_arrive True (bayAt s b) s.tuning.dead s.clock echo seqSent t
  refine ⟨fun a => ?_, fun p flying a => ?_, ascend⟩
  · unfold recorded
    rw [bayAt_setBay]
    split
    · exact (Parted.echo (parted b) _ _ _).calms arrives
    · exact parted a
  · unfold recorded
    rw [bayAt_setBay]
    split
    · next same =>
      subst same
      exact SeenBy.calms (SeenBy.echo (seen p flying a) (parted a) _ _ _) arrives
    · exact seen p flying a

/-! ### What a command or an event may do -/

/-- What an instruction `i` may do to the bays. -/
inductive RestStep (i : Instr) (s t : State) : Prop where
  | rests (h : Rests True s t)
  | retuned (bays : t.bays = s.bays) (pass : t.pass = s.pass)
  | arrived (b : Fin 32) (seqSent echo : Nat) (tele : Telemetry) (after : Rests False (recorded s b seqSent echo tele) t)
  | expired (b : Fin 32) (event : i = .reversalTimerExpiry b) (expires : t = reversalExpiry b s)
  | reset (resets : IsReset i) (sound : GuardSound t) (off : ∀ b, (bayAt t b).applied.mode = .off ∧ (bayAt t b).reversal = none)

variable {i j : Instr}

theorem rests_answeredOnCore (answered : AnsweredOnCore s t) : Rests True s t := by
  obtain ⟨code, payload, u, -, same, rfl⟩ := answered
  have bays : (Port.core u).bays = (Port.core s).bays := congrArg State.bays same
  have pass : (Port.core u).pass = (Port.core s).pass := congrArg State.pass same
  have tuning : (Port.core u).tuning = (Port.core s).tuning := congrArg State.tuning same
  have kept : Rests True s u := (Rests.refl True s).frame bays pass tuning
  exact kept.answer code payload

theorem restStep_softReset (resets : IsReset j) : RestStep j s (softReset s) := by
  unfold softReset
  generalize emptied : mapBays _ _ = z
  have bay (b : Fin 32) : bayAt z b = (bayAt s b).softReset := by
    rw [← emptied, bayAt_mapBays]
    congr 1
  have off : AllOff z :=
    ⟨by rw [← emptied, mapBays_pass, mapSlots_pass], fun b => by rw [bay]; rfl, fun b => by rw [bay]; rfl, fun b => by rw [bay]; rfl⟩
  obtain ⟨sound, sampled⟩ := off.sampleLine
  exact .reset resets sound sampled

theorem rests_setClock (s : State) (c : Word) : Rests True s (setClock c s) := by
  have written : Rests True s { s with clock := c.toNat, phase := 0 } := (Rests.refl True s).frame rfl rfl rfl
  exact written.expire.answer _ _

theorem rests_closeCommand (s : State) (h : WireHandle) (force : Byte) : Rests True s (closeCommand h force s) := by
  have refused (code : RespCode) : Rests True s (refuse code s) := (Rests.refl True s).refuse code
  have unlocked (i : Fin 48) (q : Order) : Rests True s (putOrder s i q) := (Rests.refl True s).frame rfl rfl rfl
  unfold closeCommand
  repeat' split
  · exact refused _
  · exact refused _
  · exact refused _
  · exact ((unlocked _ _).closeOrder _ _).answer _ _

theorem rests_rearmOrder (s : State) (h : WireHandle) : Rests True s (rearmOrder h s) := by
  have refused (code : RespCode) : Rests True s (refuse code s) := (Rests.refl True s).refuse code
  have planned (i : Fin 48) (q : Order) : Rests True s (putOrder s i q) := (Rests.refl True s).frame rfl rfl rfl
  unfold rearmOrder
  repeat' split
  · exact refused _
  · exact refused _
  · exact refused _
  · exact (planned _ _).requestPass.answer _ _

theorem restStep_setTuning (tuning : Tuning) : RestStep j s (setTuning tuning s) := by
  have settled : (setTuning tuning s).bays = s.bays ∧ (setTuning tuning s).pass = s.pass := by
    unfold setTuning loadStaleTransition
    dsimp only [answer]
    repeat' split
    all_goals exact ⟨rfl, rfl⟩
  exact .retuned settled.1 settled.2

theorem restStep_runCommand (run : runCommand i s = .next t) (resets : i = .softReset → IsReset j) : RestStep j s t := by
  cases writes : writesCore i with
  | false =>
    rcases answeredOnCore_runCommand writes run with rfl | answered
    · exact .rests (Rests.refl True _)
    · exact .rests (rests_answeredOnCore answered)
  | true =>
    cases i with
    | softReset => cases run; exact restStep_softReset (resets rfl)
    | setTuning => cases run; exact restStep_setTuning _
    | setClock c => cases run; exact .rests (rests_setClock s c)
    | close h force => cases run; exact .rests (rests_closeCommand s h force)
    | rearm h => cases run; exact .rests (rests_rearmOrder s h)
    | linkReset => cases run; exact .rests ((Rests.refl True s).beginHold.answer _ _)
    | enableBays list =>
      cases run
      exact .rests (((Rests.refl True s).mapBays fun b x => calms_enable True _ x _).answer _ _)
    | allocateNow => cases run; exact .rests ((Rests.refl True s).requestPass.answer _ _)
    | curtail v =>
      cases run
      have written : Rests True s { s with softCurtail := flagByte v } := (Rests.refl True s).frame rfl rfl rfl
      exact .rests ((written.judgeCurtailment _).answer _ _)
    | _ => cases writes

/-- A transfer that carries a command runs it; SOFT_RESET makes it a reset (R181). -/
theorem restStep_execFrameError {bytes : List Byte} (run : execFrameError bytes s = .next t) : RestStep (.frameError bytes) s t := by
  unfold execFrameError at run
  split at run
  · cases run; exact .rests (Rests.refl True s)
  · cases run; exact .rests ((Rests.refl True s).refuse _)
  · next judged => exact restStep_runCommand run fun soft => .inr (.inr ⟨bytes, rfl, soft ▸ judged⟩)

theorem restStep_windowClose (chars : List RxChar) : RestStep j s (windowClose chars s) := by
  have closed : Rests True s { s with exchange := none } := (Rests.refl True s).frame rfl rfl rfl
  have arrived (b : Fin 32) (seqSent echo : Nat) (t : Telemetry) :
      Rests False (recorded s b seqSent echo t) (validArrival { s with exchange := none } b seqSent echo t) :=
    (Rests.refl False (recorded s b seqSent echo t)).afterRecord b t _
  unfold windowClose
  dsimp only
  repeat' split
  · exact .rests (Rests.refl True s)
  · exact .rests (closed.miss _)
  · exact .arrived _ _ _ _ (arrived _ _ _ _)
  · exact .rests ((closed.miss _).goOn _)
  · exact .arrived _ _ _ _ ((arrived _ _ _ _).goOn _)

/-- Every event of time but the expiry of a reversal timer lets the bays coast. -/
theorem rests_takeEvent (s : State) {e : TimedEvent} (other : ∀ b, e ≠ .reversal b) : Rests True s (takeEvent s e) := by
  have start := Rests.refl True s
  cases e with
  | clock => exact start.clockAdvance
  | period => exact start.periodExpiry
  | cycle => exact start.cycleExpiry
  | hold => exact start.holdEnd
  | window => exact start.windowClose_nil
  | publish => exact rests_publishPass True s
  | loadStale => exact start.loadStaleTransition
  | allstop => exact start.sendAllstop
  | curt => exact start.curtLineChange _
  | lapse b => exact start.lapseBay b
  | reversal b => exact absurd rfl (other b)

theorem restStep_exec (run : exec i s = .next t) : RestStep i s t := by
  have command (plain : i ≠ .softReset) (same : exec i s = runCommand i s) : RestStep i s t :=
    restStep_runCommand (same.symm.trans run) fun soft => absurd soft plain
  have event (e : TimedEvent) (other : ∀ b, e ≠ .reversal b) (same : exec i s = .next (takeEvent s e)) : RestStep i s t := by
    rw [same] at run
    cases run
    exact .rests (rests_takeEvent s other)
  cases i with
  | frameError bytes => exact restStep_execFrameError run
  | softReset => cases run; exact restStep_softReset (.inr (.inl rfl))
  | shortTransfer => cases run; exact .rests (Rests.refl True s)
  | powerOnReset curt =>
    cases run
    obtain ⟨sound, off⟩ := (allOff_of_initial (s := { State.reset with
      pending := s.pending, freeIndex := s.freeIndex, pins := { s.pins.afterReset with supply := s.pins.supply.taken }
      curt := .steady curt }) rfl (bayAt_reset_bays rfl)).sampleLine
    exact .reset (.inl ⟨curt, .inl rfl⟩) sound off
  | pinReset curt =>
    cases run
    obtain ⟨sound, off⟩ := (allOff_of_initial (s := { State.reset with
      pending := s.pending, freeIndex := s.freeIndex, pins := { s.pins.afterReset with resetN := s.pins.resetN.taken }
      curt := s.curt.settle curt, profiles := s.profiles, ceiling := s.ceiling, workingCap := s.ceiling }) rfl
      (bayAt_reset_bays rfl)).sampleLine
    exact .reset (.inl ⟨curt, .inr rfl⟩) sound off
  | curtLineChange level => cases run; exact .rests ((Rests.refl True s).curtLineChange level)
  | replyWindowClose chars => cases run; exact restStep_windowClose chars
  | reversalTimerExpiry b => cases run; exact .expired b rfl rfl
  | allstop => exact event .allstop nofun rfl
  | clockAdvance => exact event .clock nofun rfl
  | periodTimerExpiry => exact event .period nofun rfl
  | publish => exact event .publish nofun rfl
  | cycleTimerExpiry => exact event .cycle nofun rfl
  | linkResetHoldEnd => exact event .hold nofun rfl
  | lapse b => exact event (.lapse b) nofun rfl
  | loadStaleTransition => exact event .loadStale nofun rfl
  | nop | status | clearStatus | setAttnMask | readClock | setClock | setTuning | openOrder | amend | lock | unlock
  | close | retire | lookup | findByBay | findByTag | findByState | profileRead | profilePreset | profileDrop | setCeiling
  | setWorkingCap | setCurtailCap | setFallbackCap | setFeeder | reportLoad | readBudget | enableBays | linkReset | readBay
  | rearm | curtail | allocateNow => exact command nofun rfl

/-! ### The guard stays sound (R168, R169) -/

theorem guardSound_reversalExpiry (sound : GuardSound s) (b : Fin 32) : GuardSound (reversalExpiry b s) := by
  obtain ⟨parted, seen, ascend⟩ := sound
  refine ⟨fun a => ?_, fun p flying a => ?_, ascend⟩
  · unfold reversalExpiry
    rw [bayAt_setBay]
    split
    · exact (parted b).rested_bay
    · exact parted a
  · unfold reversalExpiry
    rw [bayAt_setBay]
    split
    · next same => exact same ▸ SeenBy.rested_bay (seen p flying a)
    · exact seen p flying a

/-- The guard is about the bays and the pass in flight alone. -/
theorem GuardSound.frame (sound : GuardSound s) (bays : t.bays = s.bays) (pass : t.pass = s.pass) : GuardSound t := by
  obtain ⟨parted, seen, ascend⟩ := sound
  have same (b : Fin 32) : bayAt t b = bayAt s b := congrArg (fun bays : Vector Bay 32 => bays[b]) bays
  exact ⟨fun b => same b ▸ parted b, fun p flying b => same b ▸ seen p (pass ▸ flying) b, fun p flying => ascend p (pass ▸ flying)⟩

theorem GuardSound.restStep (sound : GuardSound s) (moved : RestStep i s t) : GuardSound t := by
  cases moved with
  | rests h => exact h.sound sound
  | retuned bays pass => exact sound.frame bays pass
  | arrived b seqSent echo tele after => exact after.sound (guardSound_recorded sound b seqSent echo tele)
  | expired b _ expires => exact expires ▸ guardSound_reversalExpiry sound b
  | reset _ sound' _ => exact sound'

theorem bayAt_elapse (s : State) (b : Fin 32) : bayAt (elapse s) b = (bayAt s b).elapse := by
  unfold elapse
  rw [bayAt_mapBays]
  simp only [bayAt]

theorem GuardSound.elapse (sound : GuardSound s) : GuardSound (elapse s) := by
  obtain ⟨parted, seen, ascend⟩ := sound
  have before {p : Pass} (flying : p ∈ (Machine.elapse s).pass) : ∃ q ∈ s.pass, p.snap = q.snap := by
    rw [elapse_pass] at flying
    obtain ⟨q, mem, rfl⟩ := Option.map_eq_some_iff.1 flying
    exact ⟨q, mem, rfl⟩
  refine ⟨fun b => ?_, fun p flying b => ?_, fun p flying => ?_⟩
  · rw [bayAt_elapse]
    exact (parted b).elapse
  · obtain ⟨q, mem, snap⟩ := before flying
    rw [bayAt_elapse]
    exact SeenBy.elapse (snap ▸ seen q mem b)
  · obtain ⟨q, mem, snap⟩ := before flying
    exact snap ▸ ascend q mem

theorem GuardSound.takeEvent (sound : GuardSound s) (e : TimedEvent) : GuardSound (takeEvent s e) := by
  by_cases expiry : ∃ b, e = .reversal b
  · obtain ⟨b, rfl⟩ := expiry
    exact guardSound_reversalExpiry sound b
  · exact (rests_takeEvent s fun b same => expiry ⟨b, same⟩).sound sound

theorem GuardSound.tick (sound : GuardSound s) : GuardSound (tick s) := by
  unfold Machine.tick
  split
  · exact sound.frame rfl rfl
  · unfold passTime
    refine foldl_keeps GuardSound _ (fun u e hu => ?_) _ _ (sound.elapse.frame rfl rfl)
    split
    · exact hu.takeEvent e
    · exact hu

theorem GuardSound.step (sound : GuardSound s) (run : step s = .next t) : GuardSound t := by
  unfold Machine.step at run
  split at run
  · cases run; exact sound.tick
  · next c rest _ =>
    have taken : GuardSound { s with pending := rest } := sound.frame rfl rfl
    exact taken.restStep (restStep_exec run)

end

/-- Settles O59: beside the pass there are a confirmation, an expiry, a reset and operations that only let bays coast. -/
theorem reversalRestStaysSound : Obligations.ReversalRestStaysSound := by
  intro s t sound ascend run
  exact (guardSound_iff t).1 (((guardSound_iff s).2 ⟨sound, ascend⟩).step run)

end Sys2Proof.ModeReversal
end

section
/-! One step of the law of R169: a bay takes a mode up from OFF only, and never while it rests from the opposite mode. -/

namespace Sys2Proof.ModeReversal

open Sys2Proof.Machine Sys2Proof.Safety Sys2Proof.Commitment

/-! ### A command or an event -/

/-- The law of R169 for one bay over a step that passes no time: `x` before it, `y` after it. -/
structure Separated (dead : Nat) (reset expired : Prop) (x y : Bay) : Prop where
  gains : y.applied.mode ≠ .off → y.applied.mode ≠ x.applied.mode →
    x.applied.mode = .off ∧ ∀ r, x.reversal = some r → r.mode ≠ y.applied.mode.opposite
  loses : x.applied.mode ≠ .off → y.applied.mode = .off →
    y.reversal = some { mode := x.applied.mode, left := dead * 16000000 } ∨ reset
  stays : ∀ r, x.applied.mode = .off → y.applied.mode = .off → x.reversal = some r →
    y.reversal = some r ∨ (expired ∧ y.reversal = none) ∨ reset

section
variable {drops reset expired : Prop} {dead : Nat} {x y : Bay}

/-- A bay that coasts takes up no mode. -/
theorem Coasts.no_gain (h : Coasts drops dead x y) (runs : y.applied.mode ≠ .off) : y.applied.mode = x.applied.mode :=
  h.mode.resolve_right runs

/-- A bay that coasts out of a mode rests from it. -/
theorem Coasts.rests (h : Coasts drops dead x y) (ran : x.applied.mode ≠ .off) (off : y.applied.mode = .off) :
    y.reversal = some { mode := x.applied.mode, left := dead * 16000000 } := by
  rcases h with ⟨mode, -⟩ | ⟨-, -, timer⟩
  · exact absurd (mode.symm.trans off) ran
  · exact timer.trans (reversalAfter_lost dead ran _)

theorem Coasts.separated (h : Coasts drops dead x y) : Separated dead reset expired x y :=
  ⟨fun runs gained => absurd (h.no_gain runs) gained, fun ran off => .inl (h.rests ran off),
    fun _ off _ timer => .inl ((h.of_off off).2.trans timer)⟩

/-- A confirmation gives a mode only to an OFF bay that rests from no other (R130, R169). -/
theorem Parted.separated_confirmed (h : Parted x) (offers : x.pending.mode ≠ .off) (given : y.applied.mode = x.pending.mode) :
    Separated dead reset expired x y := by
  refine ⟨fun _ gained => ⟨?_, fun r timer => ?_⟩, fun _ off => absurd (given.symm.trans off) offers,
    fun _ _ off => absurd (given.symm.trans off) offers⟩
  · exact (h.applied_of_offered offers).resolve_right fun same => gained (given.trans same.symm)
  · exact given ▸ (h.offered offers).2 r timer

/-- After the echo of an arrival the bay keeps the mode and the timer that the echo leaves. -/
theorem Parted.separated_echo (h : Parted x) {echo seqSent : Nat} (after : Coasts False dead (x.echo dead echo seqSent) y) :
    Separated dead reset expired x y := by
  have kept : y.applied.mode = (x.echo dead echo seqSent).applied.mode ∧ y.reversal = (x.echo dead echo seqSent).reversal :=
    after.resolve_right fun dropped => dropped.1
  have coasted (calms : Calms True dead x (x.echo dead echo seqSent)) : Separated dead reset expired x y :=
    (calms.coasts.trans (.inl kept)).separated
  rcases echo_cases x dead echo seqSent with calms | confirmed
  · exact coasted calms
  by_cases off : x.pending.mode = .off
  · exact coasted (confirmed ▸ calms_confirmed_off off dead _)
  · exact h.separated_confirmed off (kept.1.trans (confirmed ▸ rfl))

/-- A timer that runs out leaves the bay as it is otherwise. -/
theorem separated_expired : Separated dead reset True x { x with reversal := none } :=
  ⟨fun _ gained => absurd rfl gained, fun ran off => absurd off ran, fun _ _ _ _ => .inr (.inl ⟨trivial, rfl⟩)⟩

theorem separated_reset (resets : reset) (off : y.applied.mode = .off) : Separated dead reset expired x y :=
  ⟨fun runs => absurd off runs, fun _ _ => .inr resets, fun _ _ _ _ => .inr (.inr resets)⟩

end

section
variable {s t : State} {i : Instr}

/-- The law over a command or an event, for every bay. -/
theorem RestStep.separated (moved : RestStep i s t) {b : Fin 32} (parted : Parted (bayAt s b)) :
    Separated s.tuning.dead ((bayAt t b).reversal = none ∧ IsReset i) (i = .reversalTimerExpiry b) (bayAt s b) (bayAt t b) := by
  cases moved with
  | rests h => exact (h.coasts b).separated
  | retuned bays _ =>
    have same : bayAt t b = bayAt s b := congrArg (fun bays : Vector Bay 32 => bays[b]) bays
    rw [same]
    exact (Coasts.refl True _ _).separated
  | arrived a seqSent echo tele after =>
    have coasts := after.coasts b
    by_cases here : b = a
    · subst here
      have record : bayAt (recorded s b seqSent echo tele) b
          = (bayAt s b).arrive s.tuning.dead s.clock echo seqSent tele := bayAt_setBay_self _ b _
      rw [record] at coasts
      exact parted.separated_echo ((calms_arrive False _ _ _ _ _ _).coasts.trans coasts)
    · have other : bayAt (recorded s a seqSent echo tele) b = bayAt s b := bayAt_setBay_ne _ _ here
      rw [other] at coasts
      exact Coasts.separated coasts
  | expired a event expires =>
    subst event expires
    by_cases here : b = a
    · subst here
      unfold reversalExpiry
      rw [bayAt_setBay_self]
      simpa using separated_expired
    · unfold reversalExpiry
      rw [bayAt_setBay_ne _ _ here]
      exact (Coasts.refl True _ _).separated
  | reset resets _ off => exact separated_reset ⟨(off b).2, resets⟩ (off b).1

end

/-! ### An idle step -/

section
variable {s : State} {b : Fin 32}

theorem mem_insertAt_self {α : Type} (n : Nat) (x : α) (l : List α) : x ∈ insertAt n x l := by
  induction l generalizing n with
  | nil => exact List.mem_cons_self
  | cons y rest ih =>
    cases n with
    | zero => exact List.mem_cons_self
    | succ n => exact List.mem_cons_of_mem y (ih n)

theorem mem_insertAt_of_mem {α : Type} (n : Nat) {x y : α} {l : List α} (mem : y ∈ l) : y ∈ insertAt n x l := by
  induction l generalizing n with
  | nil => cases mem
  | cons z rest ih =>
    cases n with
    | zero => exact List.mem_cons_of_mem x mem
    | succ n =>
      rcases List.mem_cons.1 mem with rfl | inRest
      · exact List.mem_cons_self
      · exact List.mem_cons_of_mem z (ih n inRest)

theorem mem_arrange_of_mem {k : Nat} {e : TimedEvent} {l : List TimedEvent} (mem : e ∈ l) : e ∈ arrange k l := by
  induction l generalizing k with
  | nil => cases mem
  | cons d rest ih =>
    rcases List.mem_cons.1 mem with rfl | inRest
    · exact mem_insertAt_self _ _ _
    · exact mem_insertAt_of_mem _ (ih inRest)

theorem reversal_mem_dueEvents (before later : State) (b : Fin 32) :
    .reversal b ∈ dueEvents before later ↔ reversalDue (bayAt later b) = true := by
  simp [dueEvents, allBays, List.mem_finRange]

/-- An event taken when its turn comes, if it still is due. -/
def takeDue (u : State) (e : TimedEvent) : State := if stillDue u e then takeEvent u e else u

/-- A state with the next free value of the order of its events. -/
def indexed (u : State) (n : Nat) : State := { u with freeIndex := n }

theorem bayAt_indexed (u : State) (n : Nat) (b : Fin 32) : bayAt (indexed u n) b = bayAt u b := rfl
theorem tuning_indexed (u : State) (n : Nat) : (indexed u n).tuning = u.tuning := rfl

theorem passTime_eq (s : State) :
    passTime s = (arrange s.freeIndex (dueEvents s (elapse s))).foldl takeDue
      (indexed (elapse s) (s.freeIndex + (dueEvents s (elapse s)).length + 1)) := rfl

/-- Every event but the expiry of its own timer lets a bay coast. -/
theorem coasts_takeDue (u : State) {e : TimedEvent} (other : e ≠ .reversal b) :
    Coasts True u.tuning.dead (bayAt u b) (bayAt (takeDue u e) b) ∧ (takeDue u e).tuning = u.tuning := by
  unfold takeDue
  split
  · by_cases expiry : ∃ a, e = .reversal a
    · obtain ⟨a, rfl⟩ := expiry
      have apart : b ≠ a := fun same => other (same ▸ rfl)
      have kept : bayAt (takeEvent u (.reversal a)) b = bayAt u b := bayAt_setBay_ne _ _ apart
      rw [kept]
      exact ⟨Coasts.refl _ _ _, rfl⟩
    · have rests := rests_takeEvent u fun a same => expiry ⟨a, same⟩
      exact ⟨rests.coasts b, rests.tuning⟩
  · exact ⟨Coasts.refl _ _ _, rfl⟩

/-- Until its timer is due a bay coasts through an idle step. -/
theorem coasts_passTime (running : reversalDue (bayAt s b).elapse = false) :
    Coasts True s.tuning.dead (bayAt s b).elapse (bayAt (passTime s) b) := by
  have later : bayAt (elapse s) b = (bayAt s b).elapse := bayAt_elapse s b
  have tuning : (elapse s).tuning = s.tuning := by unfold elapse; rw [mapBays_tuning]
  have coasted : Coasts True s.tuning.dead (bayAt s b).elapse (bayAt (passTime s) b) ∧ (passTime s).tuning = s.tuning := by
    rw [passTime_eq]
    refine List.foldlRecOn (motive := fun u => Coasts True s.tuning.dead (bayAt s b).elapse (bayAt u b) ∧ u.tuning = s.tuning) _ _
      ⟨?_, (tuning_indexed _ _).trans tuning⟩ fun u hu e mem => ?_
    · rw [bayAt_indexed, later]
      exact Coasts.refl _ _ _
    obtain ⟨coasts, same⟩ := hu
    have other : e ≠ .reversal b := fun expiry => by
      have due := (reversal_mem_dueEvents s (elapse s) b).1 (expiry ▸ mem_of_mem_arrange mem)
      rw [later, running] at due
      cases due
    obtain ⟨coasts', same'⟩ := coasts_takeDue u other
    exact ⟨coasts.trans (same ▸ coasts'), same'.trans same⟩
  exact coasted.1

/-- A bay that is OFF, its timer as given or gone. -/
def OffUntil (timer : Option Reversal) (x : Bay) : Prop := x.applied.mode = .off ∧ (x.reversal = timer ∨ x.reversal = none)

theorem offUntil_takeDue {timer : Option Reversal} (u : State) (e : TimedEvent) (h : OffUntil timer (bayAt u b)) :
    OffUntil timer (bayAt (takeDue u e) b) := by
  obtain ⟨off, here⟩ := h
  by_cases own : e = .reversal b
  · subst own
    unfold takeDue
    split
    · have gone : bayAt (takeEvent u (.reversal b)) b = { bayAt u b with reversal := none } := bayAt_setBay_self _ b _
      rw [gone]
      exact ⟨off, .inr rfl⟩
    · exact ⟨off, here⟩
  · obtain ⟨off', timer'⟩ := (coasts_takeDue u own).1.of_off off
    exact ⟨off', timer'.symm ▸ here⟩

theorem reversalDue_congr {x y : Bay} (same : x.reversal = y.reversal) : reversalDue x = reversalDue y := by
  simp only [reversalDue, same]

/-- The expiry itself leaves no timer. -/
theorem gone_takeDue {timer : Option Reversal} (due : ∀ x : Bay, x.reversal = timer → reversalDue x = true) (u : State)
    (h : OffUntil timer (bayAt u b)) : OffUntil none (bayAt (takeDue u (.reversal b)) b) := by
  obtain ⟨off, here⟩ := h
  have gone : bayAt (takeEvent u (.reversal b)) b = { bayAt u b with reversal := none } := bayAt_setBay_self _ b _
  unfold takeDue
  split
  · rw [gone]
    exact ⟨off, .inl rfl⟩
  · next idle => exact ⟨off, .inl (here.resolve_left fun same => idle (due _ same))⟩

/-- Once its turn has come a timer that was due is gone, whatever events come before and after. -/
theorem gone_takeAll {timer : Option Reversal} (due : ∀ x : Bay, x.reversal = timer → reversalDue x = true) {l : List TimedEvent}
    (mem : .reversal b ∈ l) (u : State) (h : OffUntil timer (bayAt u b)) : OffUntil none (bayAt (l.foldl takeDue u) b) := by
  have keeps (timer : Option Reversal) (l : List TimedEvent) (u : State) (h : OffUntil timer (bayAt u b)) :
      OffUntil timer (bayAt (l.foldl takeDue u) b) :=
    foldl_keeps (fun u => OffUntil timer (bayAt u b)) _ (fun u e hu => offUntil_takeDue u e hu) l u h
  obtain ⟨first, rest, rfl⟩ := List.append_of_mem mem
  rw [List.foldl_append, List.foldl_cons]
  exact keeps none rest _ (gone_takeDue due _ (keeps _ first u h))

/-- A timer of an OFF bay that is due is gone after the idle step, in whatever order the events are taken. -/
theorem gone_passTime (off : (bayAt s b).applied.mode = .off) (due : reversalDue (bayAt s b).elapse = true) :
    (bayAt (passTime s) b).applied.mode = .off ∧ (bayAt (passTime s) b).reversal = none := by
  have later : bayAt (elapse s) b = (bayAt s b).elapse := bayAt_elapse s b
  have mem : TimedEvent.reversal b ∈ arrange s.freeIndex (dueEvents s (elapse s)) :=
    mem_arrange_of_mem ((reversal_mem_dueEvents s (elapse s) b).2 (later ▸ due))
  have stillDue (x : Bay) (same : x.reversal = (bayAt s b).elapse.reversal) : reversalDue x = true :=
    (reversalDue_congr same).trans due
  have start (n : Nat) : OffUntil (bayAt s b).elapse.reversal (bayAt (indexed (elapse s) n) b) := by
    rw [bayAt_indexed, later]
    exact ⟨off, .inl rfl⟩
  obtain ⟨off', gone⟩ := gone_takeAll stillDue mem _ (start _)
  rw [passTime_eq]
  exact ⟨off', gone.elim id id⟩

/-- The timer of a bay after 640 cycles is due when no more than these were left. -/
theorem reversalDue_elapse {x : Bay} {r : Reversal} (timer : x.reversal = some r) :
    reversalDue x.elapse = decide (r.left ≤ 640) := by
  have counted : x.elapse.reversal = some { r with left := r.left - 640 } := congrArg (Option.map _) timer
  unfold reversalDue
  rw [counted]
  simp [Nat.sub_eq_zero_iff_le]

/-- The law of R169 over the passing of time on a part that is not held in reset. -/
theorem separated_passTime (parted : Parted (bayAt s b)) :
    ((bayAt (passTime s) b).applied.mode ≠ .off → (bayAt (passTime s) b).applied.mode = (bayAt s b).applied.mode)
    ∧ ((bayAt s b).applied.mode ≠ .off → (bayAt (passTime s) b).applied.mode = .off →
        (bayAt (passTime s) b).reversal = some { mode := (bayAt s b).applied.mode, left := s.tuning.dead * 16000000 })
    ∧ ∀ r, (bayAt s b).applied.mode = .off → (bayAt s b).reversal = some r →
        640 < r.left ∧ (bayAt (passTime s) b).reversal = some { r with left := r.left - 640 }
          ∨ r.left ≤ 640 ∧ (bayAt (passTime s) b).reversal = none := by
  have resting (ran : (bayAt s b).applied.mode ≠ .off) : reversalDue (bayAt s b).elapse = false := by
    have none_left : (bayAt s b).elapse.reversal = none := congrArg (Option.map _) (parted.rested ran)
    unfold reversalDue
    rw [none_left]
  refine ⟨fun runs => ?_, fun ran off => (coasts_passTime (resting ran)).rests ran off, fun r off timer => ?_⟩
  · cases due : reversalDue (bayAt s b).elapse with
    | false => exact (coasts_passTime due).no_gain runs
    | true =>
      by_cases off : (bayAt s b).applied.mode = .off
      · exact absurd (gone_passTime off due).1 runs
      · exact absurd (due.symm.trans (resting off)) nofun
  · have due := reversalDue_elapse timer
    by_cases few : r.left ≤ 640
    · exact .inr ⟨few, (gone_passTime off (due.trans (decide_eq_true few))).2⟩
    · have counted : (bayAt s b).elapse.reversal = some { r with left := r.left - 640 } := congrArg (Option.map _) timer
      exact .inl ⟨Nat.lt_of_not_le few, ((coasts_passTime (due.trans (decide_eq_false few))).of_off off).2.trans counted⟩

end

/-- Settles O60: a command or event as `RestStep.separated` has it, an idle step as `separated_passTime`; a part held in reset
leaves its bays. -/
theorem heatAndCoolAreSeparatedByRest : Obligations.HeatAndCoolAreSeparatedByRest := by
  intro s t b sound run reset
  have parted : Parted (bayAt s b) := ⟨(sound.1 b).1, (sound.1 b).2.1, (sound.1 b).2.2⟩
  unfold step at run
  split at run
  · next idle =>
    cases run
    unfold tick
    split
    · next held =>
      have same : bayAt (filterTime s) b = bayAt s b := rfl
      rw [same]
      exact ⟨fun _ gained => absurd rfl gained, fun ran off => absurd off ran, fun r _ _ timer => .inl ⟨.inr held, timer⟩⟩
    · next runs =>
      obtain ⟨gains, loses, stays⟩ := separated_passTime parted
      refine ⟨fun on gained => absurd (gains on) gained, fun ran off => .inl (loses ran off), fun r off _ timer => ?_⟩
      rcases stays r off timer with ⟨more, counted⟩ | ⟨few, gone⟩
      · exact .inr (.inl ⟨idle, Bool.eq_false_iff.2 runs, more, counted⟩)
      · exact .inr (.inr (.inl ⟨idle, Bool.eq_false_iff.2 runs, few, gone⟩))
  · next c rest front =>
    have resets (h : (bayAt t b).reversal = none ∧ IsReset c) : reset := ⟨h.1, c, rest, front, h.2⟩
    obtain ⟨gains, loses, stays⟩ := (restStep_exec run).separated (b := b) parted
    refine ⟨gains, fun ran off => (loses ran off).imp_right resets, fun r off off' timer => ?_⟩
    rcases stays r off off' timer with kept | ⟨expiry, gone⟩ | isReset
    · exact .inl ⟨.inl (by simp [front]), kept⟩
    · exact .inr (.inr (.inr (.inl ⟨⟨rest, expiry ▸ front⟩, gone⟩)))
    · exact .inr (.inr (.inr (.inr (resets isReset))))

end Sys2Proof.ModeReversal
end

section
/-! REARM (R163 to R165): the causes in a trip record, and which of them are present. -/

namespace Sys2Proof.Protection

open Sys2Proof.Machine Sys2Proof.Safety Sys2Proof.OrderTable

/-! ### The causes of a trip record -/

theorem has_iff (set : CauseSet) (c : Cause) : set.has c = true ↔ inSet set c = true := by
  cases c with
  | cabinLimit | overdraw | hvacFault | silent => exact Iff.rfl

theorem records_iff (r : TripRecord) (c : Cause) : r.records c = true ↔ c = r.first ∨ inSet r.later c = true := by
  rw [TripRecord.records, Bool.or_eq_true, decide_eq_true_iff, has_iff, eq_comm]

theorem mem_allCauses (c : Cause) : c ∈ allCauses := by
  cases c <;> simp [allCauses]

/-! ### The causes present at a bay (R164) -/

section
variable (s : State) (o : Order)

/-- A condition on the telemetry of a bay, whatever its age. -/
def TelemetryShows (b : Fin 32) (shows : Telemetry → Prop) : Prop := ∃ t, (bayAt s b).tele = some t ∧ shows t

/-- A cause is present at the bay of an order. -/
def Present (c : Cause) : Prop :=
  match c with
  | .cabinLimit => TelemetryShows s o.bay fun t => 450 < t.cabin ∨ t.cabin < o.target - 60
  | .overdraw => TelemetryShows s o.bay fun t => 300 < t.power
  | .hvacFault => TelemetryShows s o.bay fun t => t.hvac = .fault
  | .silent => (bayAt s o.bay).link ≠ .online

theorem causePresent_iff (c : Cause) : causePresent s o c = true ↔ Present s o c := by
  unfold causePresent Present TelemetryShows
  cases c with
  | cabinLimit => cases tele : (bayAt s o.bay).tele <;> simp [tele]
  | overdraw => cases tele : (bayAt s o.bay).tele <;> simp [tele]
  | hvacFault => cases tele : (bayAt s o.bay).tele <;> simp [tele]
  | silent => simp

/-- A recorded cause is present. -/
def Faulted : Prop := ∃ (r : TripRecord) (c : Cause), o.trip = some r ∧ (c = r.first ∨ inSet r.later c = true) ∧ Present s o c

theorem stillFaulted_iff : stillFaulted s o = true ↔ Faulted s o := by
  unfold stillFaulted Faulted
  cases o.trip with
  | none => simp
  | some r => simp [List.any_eq_true, mem_allCauses, records_iff, causePresent_iff]

end

/-! ### The command -/

section
variable {s : State} {h : WireHandle} {i : Fin 48} {o : Order}

theorem exec_rearm (h : WireHandle) (s : State) : exec (.rearm h) s = .next (rearmOrder h s) := rfl

theorem rearmOrder_of_untripped (named : Names s h i o) (other : o.state ≠ .tripped) : rearmOrder h s = refuse .notTripped s := by
  simp [rearmOrder, (resolve_iff s h i o).2 named, other]

theorem rearmOrder_of_faulted (named : Names s h i o) (tripped : o.state = .tripped) (faulted : Faulted s o) :
    rearmOrder h s = refuse .stillFaulted s := by
  simp [rearmOrder, (resolve_iff s h i o).2 named, tripped, (stillFaulted_iff s o).2 faulted]

theorem rearmOrder_of_clear (named : Names s h i o) (tripped : o.state = .tripped) (clear : ¬Faulted s o) :
    rearmOrder h s = answer .ok [] (requestPass (putOrder s i { o with state := .planned })) := by
  have still : ¬stillFaulted s o = true := mt (stillFaulted_iff s o).1 clear
  simp [rearmOrder, (resolve_iff s h i o).2 named, tripped, still]

theorem rearm_checks (h : WireHandle) (s : State) :
    JudgedBy (.rearm h) s
      [(¬∃ i o, Names s h i o, .noOrder), (∃ i o, Names s h i o ∧ o.state ≠ .tripped, .notTripped),
       (∃ i o, Names s h i o ∧ Faulted s o, .stillFaulted)] := by
  cases found : resolve s h with
  | none => exact judgedBy_noOrder found (by rw [exec_rearm, rearmOrder, found])
  | some x =>
    obtain ⟨i, o⟩ := x
    have named := (resolve_iff s h i o).1 found
    have exists' : ¬¬∃ i o, Names s h i o := not_not_intro ⟨i, o, named⟩
    by_cases tripped : o.state = .tripped
    · have allTripped : ¬∃ i o, Names s h i o ∧ o.state ≠ .tripped := by
        rw [exists_names_iff named fun _ o => o.state ≠ .tripped]
        exact not_not_intro tripped
      by_cases faulted : Faulted s o
      · exact judgedBy_refusal (congrArg _ (rearmOrder_of_faulted named tripped faulted))
          (firstOf_miss exists' (firstOf_miss allTripped (firstOf_hit ⟨i, o, named, faulted⟩)))
      · have noneFaulted : ¬∃ i o, Names s h i o ∧ Faulted s o := by
          rwa [exists_names_iff named fun _ o => Faulted s o]
        exact judgedBy_ok (congrArg _ (rearmOrder_of_clear named tripped faulted))
          (firstOf_miss exists' (firstOf_miss allTripped (firstOf_miss noneFaulted rfl)))
    · exact judgedBy_refusal (congrArg _ (rearmOrder_of_untripped named tripped))
        (firstOf_miss exists' (firstOf_hit ⟨i, o, named, tripped⟩))

end

/-- Settles O52: the checks in their order, and the pass that a re-armed order requests. -/
theorem rearmTestsRecordedCauses : Obligations.RearmTestsRecordedCauses := by
  intro h s present faulted
  have same (o : Order) : faulted o ↔ Faulted s o :=
    exists_congr fun r => exists_congr fun c => and_congr_right fun _ => and_congr_right fun _ => by cases c <;> exact Iff.rfl
  simp only [same]
  exact ⟨rearm_checks h s, fun i o named tripped clear =>
    ⟨_, congrArg _ (rearmOrder_of_clear named tripped clear), requestPass_spec _⟩⟩

end Sys2Proof.Protection
end

section
/-! Curtailment (R148 to R153): what an arrival does to the heads and their bays, which bays its ALLSTOP lists, and what a change of
either source brings. -/

namespace Sys2Proof.Protection

open Sys2Proof.Machine Sys2Proof.Safety Sys2Proof.OrderTable Sys2Proof.Publishing

/-! ### The bays that an arrival pauses and lists (R151, R152) -/

section
variable {s : State} {b : Fin 32}

theorem arrivalPauses_iff (s : State) (b : Fin 32) : arrivalPauses s b = true ↔ ∃ i o, Curtailed s b i o := by
  have heads := headOrder_iff s b
  unfold arrivalPauses Curtailed
  cases head : headOrder s b with
  | none => simp [← and_assoc, ← heads, head]
  | some x =>
    obtain ⟨i, o⟩ := x
    obtain ⟨first, order⟩ := (heads i o).1 head
    simp only [Bool.and_eq_true, running_iff, bne_iff_ne]
    constructor
    · rintro ⟨running, urgent⟩
      exact ⟨i, o, first, order, running, urgent⟩
    · rintro ⟨j, q, first', order', curtailed⟩
      have same := (heads j q).2 ⟨first', order'⟩
      rw [head] at same
      cases same
      exact curtailed

theorem runsThrough_iff (s : State) (b : Fin 32) :
    runsThrough s b = true
      ↔ ∃ i o, HeadOf s b i ∧ orderAt s i = some o ∧ (o.state = .active ∨ o.state = .holding) ∧ o.priority = .urgent := by
  have heads := headOrder_iff s b
  unfold runsThrough
  cases head : headOrder s b with
  | none => simp [← and_assoc, ← heads, head]
  | some x =>
    obtain ⟨i, o⟩ := x
    obtain ⟨first, order⟩ := (heads i o).1 head
    simp only [Bool.and_eq_true, running_iff, beq_iff_eq]
    constructor
    · rintro ⟨running, urgent⟩
      exact ⟨i, o, first, order, running, urgent⟩
    · rintro ⟨j, q, first', order', runs⟩
      have same := (heads j q).2 ⟨first', order'⟩
      rw [head] at same
      cases same
      exact runs

theorem allstopList_bit (s : State) (b : Fin 32) : (allstopList s).getLsbD b.val = true ↔ Listed s b := by
  rw [allstopList, bayList_bit, Bool.or_eq_true, Bool.and_eq_true, decide_eq_true_iff, Bool.not_eq_true', ← Bool.not_eq_true,
    arrivalPauses_iff, runsThrough_iff]
  rfl

end

/-! ### The pauses (R151) -/

/-- A slot whose order an arrival pauses. -/
def pausedSlot (x : Slot) (o : Order) : Slot := { x with order := some { o with state := .paused .curtail } }

section
variable {s u : State} {a b : Fin 32} {i : Fin 48} {o : Order}

theorem curtailBay_of_curtailed (curtailed : Curtailed u a i o) :
    curtailBay u a = zeroPending (setSlot u i (pausedSlot (slotAt u i) o)) a := by
  have pauses : arrivalPauses u a = true := (arrivalPauses_iff u a).2 ⟨i, o, curtailed⟩
  have head : headOrder u a = some (i, o) := (headOrder_iff u a i o).2 ⟨curtailed.1, curtailed.2.1⟩
  simp only [curtailBay, pauses, if_true, pauseHead, head]
  rfl

theorem curtailBay_of_other (other : ¬∃ i o, Curtailed u a i o) : curtailBay u a = u := by
  have stays : arrivalPauses u a = false := Bool.eq_false_iff.2 (mt (arrivalPauses_iff u a).1 other)
  simp [curtailBay, stays]

/-- The state after the pauses at the bays `done`, the heads being those of `s`. -/
structure Paused (s : State) (done : List (Fin 32)) (u : State) : Prop where
  queues : u.queues = s.queues
  paused : ∀ b ∈ done, ∀ i o, Curtailed s b i o →
    slotAt u i = pausedSlot (slotAt s i) o ∧ bayAt u b = (bayAt s b).offer .off 0
  slots : ∀ i, (∀ b ∈ done, ∀ o, ¬Curtailed s b i o) → slotAt u i = slotAt s i
  bays : ∀ b, (b ∈ done → ¬∃ i o, Curtailed s b i o) → bayAt u b = bayAt s b

theorem Paused.start (s : State) : Paused s [] s := ⟨rfl, nofun, fun _ _ => rfl, fun _ _ => rfl⟩

/-- A bay whose turn has not come stands as before. -/
theorem Paused.curtailed_iff {done : List (Fin 32)} (h : Paused s done u) (sound : QueuesSound s) (ahead : a ∉ done) :
    Curtailed u a i o ↔ Curtailed s a i o := by
  have queue : queueAt u a = queueAt s a := congrArg (fun queues : Vector (List (Fin 48)) 32 => queues[a]) h.queues
  unfold Curtailed HeadOf
  rw [queue]
  refine and_congr_right fun first => ?_
  have kept : slotAt u i = slotAt s i := h.slots i fun b mem q curtailed =>
    slot_ne_of_bay_ne sound curtailed.1 first (fun same => ahead (same ▸ mem)) rfl
  rw [orderAt, kept, orderAt]

theorem Paused.curtailBay {done : List (Fin 32)} (h : Paused s done u) (sound : QueuesSound s) (ahead : a ∉ done) :
    Paused s (done ++ [a]) (curtailBay u a) := by
  by_cases any : ∃ i o, Curtailed s a i o
  · obtain ⟨i, o, curtailed⟩ := any
    have here : slotAt u i = slotAt s i := h.slots i fun b mem q other =>
      slot_ne_of_bay_ne sound other.1 curtailed.1 (fun same => ahead (same ▸ mem)) rfl
    have bay : bayAt u a = bayAt s a := h.bays a fun mem => absurd mem ahead
    rw [curtailBay_of_curtailed ((h.curtailed_iff sound ahead).2 curtailed), here]
    refine ⟨h.queues, fun b mem j q curtailed' => ?_, fun j other => ?_, fun b other => ?_⟩
    · rw [slotAt_zeroPending, slotAt_setSlot, zeroPending, bayAt_writePending, bayAt_setSlot, bayAt_setSlot]
      by_cases same : b = a
      · subst same
        obtain rfl : i = j := Option.some.inj (curtailed.1.symm.trans curtailed'.1)
        obtain rfl : o = q := Option.some.inj (curtailed.2.1.symm.trans curtailed'.2.1)
        rw [if_pos rfl, if_pos rfl, bay]
        exact ⟨rfl, rfl⟩
      · have before : b ∈ done := (List.mem_append.1 mem).resolve_right fun last => same (List.mem_singleton.1 last)
        rw [if_neg (slot_ne_of_bay_ne sound curtailed'.1 curtailed.1 same), if_neg same]
        exact h.paused b before j q curtailed'
    · have apart : j ≠ i := fun same => other a (List.mem_append_right done (List.mem_singleton.2 rfl)) o (same ▸ curtailed)
      rw [slotAt_zeroPending, slotAt_setSlot, if_neg apart]
      exact h.slots j fun b mem => other b (List.mem_append_left [a] mem)
    · have apart : b ≠ a := fun same =>
        other (List.mem_append_right done (List.mem_singleton.2 same)) ⟨i, o, same ▸ curtailed⟩
      rw [zeroPending, bayAt_writePending, if_neg apart, bayAt_setSlot]
      exact h.bays b fun mem => other (List.mem_append_left [a] mem)
  · have other : ¬∃ i o, Curtailed u a i o := by simpa only [h.curtailed_iff sound ahead] using any
    rw [curtailBay_of_other other]
    refine ⟨h.queues, fun b mem j q curtailed => ?_, fun j none => ?_, fun b none => ?_⟩
    · rcases List.mem_append.1 mem with before | last
      · exact h.paused b before j q curtailed
      · exact absurd ⟨j, q, List.mem_singleton.1 last ▸ curtailed⟩ any
    · exact h.slots j fun b mem => none b (List.mem_append_left [a] mem)
    · exact h.bays b fun mem => none (List.mem_append_left [a] mem)

theorem Paused.curtailBays {done l : List (Fin 32)} (h : Paused s done u) (sound : QueuesSound s) (apart : (done ++ l).Nodup) :
    Paused s (done ++ l) (l.foldl Machine.curtailBay u) := by
  induction l generalizing done u with
  | nil => rwa [List.append_nil]
  | cons a rest ih =>
    have ahead : a ∉ done := fun mem => (List.nodup_append.1 apart).2.2 a mem a List.mem_cons_self rfl
    have next := ih (h.curtailBay sound ahead) (by simpa using apart)
    simpa using next

/-- Every head is paused in its turn. -/
theorem paused_all (sound : QueuesSound s) : Paused s allBays (allBays.foldl curtailBay s) :=
  (Paused.start s).curtailBays sound (List.nodup_finRange 32)

end

/-! ### An arrival (R151) -/

section
variable {s : State}

theorem arrivalPass_spec (v : State) :
    PassStarts { v with pass := none, passMark := v.passMark && v.pass.isNone } (arrivalPass v) := by
  unfold arrivalPass
  cases flying : v.pass with
  | none =>
    have same : ({ v with pass := none, passMark := v.passMark && true } : State) = v := by
      rw [Bool.and_true, ← flying]
    exact same.symm ▸ startPass_spec v
  | some p =>
    have dropped : (v.passMark && false) = false := Bool.and_false _
    simp only [Option.isNone_some, dropped]
    exact startPass_spec _

theorem curtailArrival_spec (sound : QueuesSound s) : Arrival s (curtailArrival s) := by
  obtain ⟨-, paused, slots, bays⟩ := paused_all sound
  obtain ⟨_, _, pauses⟩ := curtailBays_writes allBays s
  have asked := requestAllstop_spec (allstopList s) (allBays.foldl curtailBay s)
  have requests := requestAllstop_writes (allstopList s) (allBays.foldl curtailBay s)
  unfold curtailArrival
  generalize allBays.foldl curtailBay s = r at *
  generalize requestAllstop (allstopList s) r = v at *
  obtain ⟨_, _, _, _, _, _, requests⟩ := requests
  have starts := arrivalPass_spec v
  have flags : (arrivalPass v).flags = v.flags := by rw [starts.1]
  have slot (i : Fin 48) : slotAt v i = slotAt r i := by rw [requests]; rfl
  have bay (b : Fin 32) : bayAt v b = bayAt r b := by rw [requests]; rfl
  have curtails (i : Fin 48) (none : ¬∃ b o, Curtailed s b i o) : slotAt v i = slotAt s i :=
    (slot i).trans (slots i fun b _ o curtailed => none ⟨b, o, curtailed⟩)
  have pausedAt (b : Fin 32) (i : Fin 48) (o : Order) (curtailed : Curtailed s b i o) :
      slotAt v i = pausedSlot (slotAt s i) o ∧ bayAt v b = (bayAt s b).offer .off 0 := by
    rw [slot, bay]
    exact paused b (List.mem_finRange b) i o curtailed
  refine ⟨r, v, arrivalPass v, allstopList s, ?_, asked, fun i => ?_, fun b i o curtailed => ?_, fun i none => ?_, fun b none => ?_,
    allstopList_bit s, ?_, ?_⟩
  · rw [requests, pauses]
  · by_cases any : ∃ b o, Curtailed s b i o
    · obtain ⟨b, o, curtailed⟩ := any
      rw [(pausedAt b i o curtailed).1]
      exact ⟨rfl, rfl⟩
    · rw [curtails i any]
      exact ⟨rfl, rfl⟩
  · obtain ⟨slot', bay'⟩ := pausedAt b i o curtailed
    exact ⟨congrArg Slot.order slot', bay'⟩
  · exact congrArg Slot.order (curtails i none)
  · exact (bay b).trans (bays b fun _ => none)
  · have mark : v.passMark = s.passMark := by rw [requests, pauses]
    have pass : v.pass = s.pass := by rw [requests, pauses]
    rw [← mark, ← pass]
    exact starts
  · have before : s.flags = (arrivalPass v).flags := by rw [flags, requests, pauses]
    rw [before]
    rfl

/-! ### A change of either source (R148, R150, R153) -/

theorem curtailRelease_spec (s : State) : Release s (curtailRelease s) := by
  refine ⟨requestPass s, requestPass_spec s, ?_⟩
  have flags : (requestPass s).flags = s.flags := by
    unfold requestPass
    split
    · rfl
    · rw [(startPass_spec s).1]
  rw [← flags]
  rfl

theorem judgeCurtailment_spec (before : Bool) (sound : QueuesSound s) : CurtailmentJudged before s (judgeCurtailment before s) := by
  have force : inForce s = (s.lineState || s.softCurtail) := rfl
  unfold CurtailmentJudged judgeCurtailment
  rw [← force]
  refine ⟨fun was now => ?_, fun was now => ?_, fun same => if_pos same⟩
  · rw [was, now]
    exact curtailArrival_spec sound
  · rw [was, now]
    exact curtailRelease_spec s

theorem curtailmentSources (before : Bool) (s : State) :
    (judgeCurtailment before s).softCurtail = s.softCurtail ∧ (judgeCurtailment before s).lineState = s.lineState := by
  unfold judgeCurtailment
  repeat' split
  · exact ⟨rfl, rfl⟩
  · obtain ⟨_, _, pauses⟩ := curtailBays_writes allBays s
    obtain ⟨_, _, _, _, _, _, requests⟩ := requestAllstop_writes (allstopList s) (allBays.foldl curtailBay s)
    have starts := (arrivalPass_spec (requestAllstop (allstopList s) (allBays.foldl curtailBay s))).1
    unfold curtailArrival
    generalize arrivalPass _ = u at starts ⊢
    rw [starts, requests, pauses]
    exact ⟨rfl, rfl⟩
  · unfold curtailRelease requestPass
    split
    · exact ⟨rfl, rfl⟩
    · have starts := (startPass_spec s).1
      generalize startPass s = u at starts ⊢
      rw [starts]
      exact ⟨rfl, rfl⟩

theorem flagByte_eq (value : Byte) : flagByte value = decide (value ≠ 0) := by simp [flagByte, bne, beq_eq_decide]

theorem read_curtailBytes (s : State) :
    readFields [1, 1, 1] (curtailBytes s)
      = some (atWidths [1, 1, 1] [s.softCurtail.toNat, s.lineState.toNat, (s.lineState || s.softCurtail).toNat]) := by
  have force : inForce s = (s.lineState || s.softCurtail) := rfl
  simp [curtailBytes, readFields_byte, atWidths, bool_toNat_mod, force]

theorem settle_eq (f : CurtFilter) (level : Bool) : f.settle level = seen f level := by
  unfold CurtFilter.settle seen
  by_cases same : f.level = level
  · rw [if_pos same, if_pos same.symm]
  · rw [if_neg same, if_neg (Ne.symm same)]
    rfl

/-- A drive of the line starts the filter anew where it changes the line. -/
theorem pinEdge_curt (level : Bool) (s : State) :
    pinEdge (.curt level) s =
      if s.curt.line = level then s else { s with curt := { line := level, level := s.curt.level, since := 0 } } := by
  have driven : pinEdge (.curt level) s = { s with curt := s.curt.drive level } := rfl
  rw [driven, CurtFilter.drive]
  by_cases same : s.curt.line = level
  · rw [if_pos same, if_pos same.symm]
  · rw [if_neg same, if_neg (Ne.symm same)]

end

/-- Settles O51: either source is judged by `judgeCurtailment`, whose cases are `curtailArrival_spec` and `curtailRelease_spec`. -/
theorem curtailmentArrivesAndReleases : Obligations.CurtailmentArrivesAndReleases := by
  intro value level s sound
  have sound' : QueuesSound { s with softCurtail := flagByte value } := sound
  have flag := flagByte_eq value
  refine ⟨⟨judgeCurtailment (inForce s) { s with softCurtail := flagByte value }, ?_, rfl, _, ?_, rfl⟩, fun running => ?_, fun held => ?_,
    pinEdge_curt level s⟩
  · rw [← flag]
    exact judgeCurtailment_spec _ sound'
  · obtain ⟨soft, line⟩ := curtailmentSources (inForce s) { s with softCurtail := flagByte value }
    rw [read_curtailBytes, soft, line, ← flag]
  · refine ⟨_, rfl, ?_⟩
    rw [curtLineChange_eq, running, if_neg Bool.false_ne_true, settle_eq]
    have filtered : QueuesSound { s with curt := seen s.curt level, lineState := level } := sound
    exact judgeCurtailment_spec _ filtered
  · show Host.Outcome.next (curtLineChange level s) = _
    rw [curtLineChange_eq, if_pos held, settle_eq]

end Sys2Proof.Protection
end

section
/-! The three resets (R141, R146, R149, R170, R181, R194, R197, R200): the values that each leaves, with the arrival of an asserted
CURT line, and the pins while the part is held. -/

namespace Sys2Proof.Protection

open Sys2Proof.Machine Sys2Proof.Safety Sys2Proof.OrderTable Sys2Proof.Allocation Sys2Proof.BayLink Sys2Proof.Port

/-! ### The sample of the CURT line on an emptied part (R149) -/

/-- The bay record that every reset leaves; the enabled list may be kept (R146, R147). -/
def bareBay (enabled : Bool) : Bay :=
  { enabled := enabled, link := if enabled then .unseen else .disabled, misses := 0
    stamp := none, tele := none, pending := { mode := .off, steps := 0, seq := 0 }
    applied := { mode := .off, steps := 0, seq := 0 }, lapse := none, overdraw := 0, reversal := none }

/-- The part as a reset leaves it before its sample of the CURT line: no order, no pass, the link in break. -/
structure Emptied (z : State) : Prop where
  response : z.response = { code := .nothing, payload := [] }
  rx : z.rx = .empty
  slots : ∀ i, orderAt z i = none ∧ (slotAt z i).learnMark = false
  queues : ∀ b, queueAt z b = []
  pass : z.pass = none
  passMark : z.passMark = false
  load : z.load = { site := 0, feeders := #v[0, 0, 0, 0], state := .stale, age := none }
  cycleTimer : z.cycleTimer = 16000000
  cycle : z.cycle = none
  deferred : z.deferred = false
  exchange : z.exchange = none
  allstop : z.allstop = none
  sending : z.sending = none
  hold : z.hold = some (2 * 16000000)
  softCurtail : z.softCurtail = false
  periodTimer : z.periodTimer = z.tuning.period * 16000000
  flags : z.flags = 0x80
  bays : ∀ b, bayAt z b = bareBay (bayAt z b).enabled

/-- The state after the sample: it differs from the emptied one in the line state, and by an arrival where CURT is asserted. -/
structure Sampled (z t : State) : Prop where
  frame : t = { z with lineState := z.curt.level, pass := t.pass, slots := t.slots, flags := t.flags }
  slots : ∀ i, slotAt t i = { slotAt z i with changeMark := (slotAt t i).changeMark }
  released : z.curt.level = false → t.flags = 0x80 ∧ t.pass = none
  asserted : z.curt.level = true →
    t.flags = 0xA0 ∧ ∃ p, t.pass = some p ∧ p.age = 0 ∧ p.snap.heads = [] ∧ p.snap.curtailed = true

section
variable {s z t : State}

theorem headOf_empty (queues : ∀ b, queueAt z b = []) (b : Fin 32) (i : Fin 48) : ¬HeadOf z b i := by
  simp [HeadOf, queues]

/-- Without orders an arrival pauses nothing. -/
theorem curtailBays_empty (queues : ∀ b, queueAt z b = []) (l : List (Fin 32)) : l.foldl curtailBay z = z := by
  refine foldl_keeps (fun u => u = z) _ (fun u b same => ?_) l z rfl
  subst same
  exact curtailBay_of_other fun ⟨i, o, head, _⟩ => headOf_empty queues b i head

theorem takeSnapshot_heads_empty (queues : ∀ b, queueAt z b = []) : (takeSnapshot z).heads = [] :=
  List.eq_nil_iff_forall_not_mem.2 fun h mem => by
    obtain ⟨o, head, -⟩ := (mem_takeSnapshot_heads z h).1 mem
    exact headOf_empty queues h.bay h.slot head

/-- An arrival at the end of a reset: nothing to pause, no ALLSTOP in the hold, and a pass without heads. -/
theorem curtailArrival_of_empty (queues : ∀ b, queueAt z b = []) (hold : z.hold ≠ none) (idle : z.pass = none) :
    curtailArrival z = raise .curtailChange (startPass z) := by
  have quiet : requestAllstop (allstopList z) z = z := (requestAllstop_spec _ z).1 (.inr hold)
  unfold curtailArrival arrivalPass
  rw [curtailBays_empty queues, quiet, idle]
  rfl

theorem Emptied.line (h : Emptied z) (level : Bool) : Emptied { z with lineState := level } := { h with }

theorem Emptied.curtailArrival (h : Emptied z) :
    Machine.curtailArrival z
      = { z with pass := some { snap := takeSnapshot z, age := 0 }, slots := (startPass z).slots, flags := 0xA0 } := by
  have timer := h.periodTimer
  have flags : z.flags ||| EventFlag.curtailChange.bit = 0xA0 := by rw [h.flags]; rfl
  have frame := (startPass_spec z).1
  rw [curtailArrival_of_empty h.queues (by simp [h.hold]) h.pass]
  generalize startPass z = t at frame ⊢
  unfold raise
  rw [frame]
  dsimp only
  rw [flags, ← timer]

/-- An arrival on an emptied part whose line state is asserted already. -/
theorem Emptied.arrives (h : Emptied z) (level : z.curt.level = true) (line : z.lineState = true) :
    Sampled z (Machine.curtailArrival z) := by
  have slots := (startPass_spec z).2
  have heads := takeSnapshot_heads_empty h.queues
  have curtailed : (takeSnapshot z).curtailed = true := by
    show (z.lineState || z.softCurtail) = true
    rw [line, Bool.true_or]
  rw [h.curtailArrival]
  refine ⟨?_, fun i => ?_, fun released => absurd (level.symm.trans released) nofun, fun _ => ⟨rfl, _, rfl, rfl, heads, curtailed⟩⟩
  · dsimp only
    rw [level, line]
  · have slot := slots i
    unfold slotAt at slot ⊢
    dsimp only
    rw [slot]

theorem Emptied.sampleLine (h : Emptied z) : Sampled z (sampleLine z) := by
  unfold Machine.sampleLine
  cases level : z.curt.level with
  | false =>
    rw [if_neg Bool.false_ne_true]
    exact ⟨by rw [level], fun i => rfl, fun _ => ⟨h.flags, h.pass⟩, fun asserted => absurd (level.symm.trans asserted) nofun⟩
  | true =>
    rw [if_pos rfl]
    obtain ⟨frame, slots, released, asserted⟩ := (h.line true).arrives level rfl
    exact ⟨frame, slots, released, asserted⟩

/-! ### The values after the sample -/

/-- The values that every reset leaves, the sample of CURT included. -/
def ResetValues (t : State) : Prop :=
  t.response = { code := .nothing, payload := [] } ∧ t.rx = .empty
  ∧ (∀ i, orderAt t i = none ∧ (slotAt t i).learnMark = false) ∧ (∀ b, queueAt t b = [])
  ∧ t.passMark = false
  ∧ t.load = { site := 0, feeders := #v[0, 0, 0, 0], state := .stale, age := none }
  ∧ t.cycleTimer = 16000000 ∧ t.cycle = none ∧ t.deferred = false ∧ t.exchange = none ∧ t.allstop = none
  ∧ t.sending = none
  ∧ t.hold = some (2 * 16000000) ∧ t.softCurtail = false ∧ t.lineState = t.curt.level
  ∧ t.periodTimer = t.tuning.period * 16000000
  ∧ (t.curt.level = false → t.flags = 0x80 ∧ t.pass = none)
  ∧ (t.curt.level = true → t.flags = 0xA0 ∧ ∃ p, t.pass = some p ∧ p.age = 0 ∧ p.snap.heads = [] ∧ p.snap.curtailed = true)
  ∧ ∀ b : Fin 32, bayAt t b = bareBay (bayAt t b).enabled

/-- What is read from neither the line state, the pass, the slots nor the flags is as before the sample. -/
theorem Sampled.keeps {α : Type} (sampled : Sampled z t) (read : State → α)
    (apart : ∀ line pass slots flags, read { z with lineState := line, pass := pass, slots := slots, flags := flags } = read z) :
    read t = read z := (congrArg read sampled.frame).trans (apart _ _ _ _)

theorem Sampled.slot (sampled : Sampled z t) (i : Fin 48) :
    orderAt t i = orderAt z i ∧ (slotAt t i).learnMark = (slotAt z i).learnMark ∧ (slotAt t i).gen = (slotAt z i).gen := by
  unfold orderAt
  rw [sampled.slots i]
  exact ⟨rfl, rfl, rfl⟩

theorem Sampled.curt (sampled : Sampled z t) : t.curt = z.curt := sampled.keeps State.curt fun _ _ _ _ => rfl

theorem Sampled.bay (sampled : Sampled z t) (b : Fin 32) : bayAt t b = bayAt z b :=
  sampled.keeps (fun u => bayAt u b) fun _ _ _ _ => rfl

theorem Sampled.lineState (sampled : Sampled z t) : t.lineState = t.curt.level := by
  rw [sampled.curt, sampled.frame]

theorem Sampled.resetValues (sampled : Sampled z t) (h : Emptied z) : ResetValues t := by
  have keeps {α : Type} := sampled.keeps (α := α)
  refine ⟨(keeps State.response fun _ _ _ _ => rfl).trans h.response, (keeps State.rx fun _ _ _ _ => rfl).trans h.rx,
    fun i => ⟨(sampled.slot i).1.trans (h.slots i).1, (sampled.slot i).2.1.trans (h.slots i).2⟩,
    fun b => (keeps (fun u => queueAt u b) fun _ _ _ _ => rfl).trans (h.queues b),
    (keeps State.passMark fun _ _ _ _ => rfl).trans h.passMark, (keeps State.load fun _ _ _ _ => rfl).trans h.load,
    (keeps State.cycleTimer fun _ _ _ _ => rfl).trans h.cycleTimer, (keeps State.cycle fun _ _ _ _ => rfl).trans h.cycle,
    (keeps State.deferred fun _ _ _ _ => rfl).trans h.deferred, (keeps State.exchange fun _ _ _ _ => rfl).trans h.exchange,
    (keeps State.allstop fun _ _ _ _ => rfl).trans h.allstop, (keeps State.sending fun _ _ _ _ => rfl).trans h.sending,
    (keeps State.hold fun _ _ _ _ => rfl).trans h.hold, (keeps State.softCurtail fun _ _ _ _ => rfl).trans h.softCurtail,
    sampled.lineState, ?_, sampled.curt ▸ sampled.released, sampled.curt ▸ sampled.asserted, fun b => ?_⟩
  · rw [keeps State.periodTimer fun _ _ _ _ => rfl, keeps State.tuning fun _ _ _ _ => rfl]
    exact h.periodTimer
  · rw [sampled.bay]
    exact h.bays b

/-- ATTN_N after a reset: RESET is raised and not masked (R200, R201). -/
theorem attnLine_of_reset (values : ResetValues t) (mask : t.mask = 0xFF) : attnLine t = !t.pins.held := by
  obtain ⟨-, -, -, -, -, -, -, -, -, -, -, -, -, -, -, -, released, asserted, -⟩ := values
  have raised : attnAsserted t = true := by
    unfold attnAsserted
    rw [mask]
    cases level : t.curt.level with
    | false => rw [(released level).1]; rfl
    | true => rw [(asserted level).1]; rfl
  rw [attnLine, raised, Bool.and_true]

/-! ### The emptied part of each reset -/

/-- The part before the sample of a power-on or pin reset: every block at the values of its chapter. -/
def coldStart (s : State) (pins : Pins) (curt : CurtFilter) (profiles : List Profile) (ceiling : Nat) : State :=
  { State.reset with
    pending := s.pending, freeIndex := s.freeIndex, pins := pins, curt := curt, profiles := profiles
    ceiling := ceiling, workingCap := ceiling }

/-- The part before the sample of a soft reset (R181). -/
def softStart (s : State) : State :=
  mapBays (fun _ x => x.softReset) (mapSlots (fun _ x => x.softReset)
    { s with
      response := { code := .nothing, payload := [] }, rx := .empty, queues := Vector.replicate 32 []
      periodTimer := s.tuning.period * Config.second, pass := none, passMark := false, load := .initial
      cycleTimer := Config.second, cycle := none, deferred := false, exchange := none, allstop := none, sending := none
      hold := some holdTime, grantFrame := [], allstopFrame := [], lineState := false, softCurtail := false
      flags := EventFlag.reset.bit })

theorem powerOnReset_eq (curt : Bool) (s : State) :
    powerOnReset curt s
      = sampleLine (coldStart s { s.pins.afterReset with supply := s.pins.supply.taken } (.steady curt) [] 0) := rfl

theorem pinReset_eq (curt : Bool) (s : State) :
    pinReset curt s
      = sampleLine (coldStart s { s.pins.afterReset with resetN := s.pins.resetN.taken } (s.curt.settle curt) s.profiles s.ceiling) := rfl

theorem softReset_eq (s : State) : softReset s = sampleLine (softStart s) := rfl

section
variable (s : State) (pins : Pins) (curt : CurtFilter) (profiles : List Profile) (ceiling : Nat)

theorem slotAt_coldStart (i : Fin 48) : slotAt (coldStart s pins curt profiles ceiling) i = Slot.initial := by
  simp [slotAt, coldStart, State.reset]

theorem bayAt_coldStart (b : Fin 32) : bayAt (coldStart s pins curt profiles ceiling) b = bareBay false := by
  simp [bayAt, coldStart, State.reset, Bay.initial, bareBay, Grant.initial]

theorem emptied_coldStart : Emptied (coldStart s pins curt profiles ceiling) := by
  refine ⟨rfl, rfl, fun i => ?_, fun b => ?_, rfl, rfl, rfl, rfl, rfl, rfl, rfl, rfl, rfl, rfl, rfl, rfl, rfl, fun b => ?_⟩
  · rw [orderAt, slotAt_coldStart]
    exact ⟨rfl, rfl⟩
  · simp [queueAt, coldStart, State.reset]
  · rw [bayAt_coldStart]
    rfl

theorem slotAt_softStart (i : Fin 48) : slotAt (softStart s) i = (slotAt s i).softReset := by
  unfold softStart
  simp only [slotAt, mapBays_slots]
  exact slotAt_mapSlots _ _ i

theorem bayAt_softStart (b : Fin 32) : bayAt (softStart s) b = bareBay (bayAt s b).enabled := by
  unfold softStart
  rw [bayAt_mapBays]
  simp only [bayAt, mapSlots_bays]
  rfl

theorem emptied_softStart : Emptied (softStart s) := by
  refine ⟨?_, ?_, fun i => ?_, fun b => ?_, ?_, ?_, ?_, ?_, ?_, ?_, ?_, ?_, ?_, ?_, ?_, ?_, ?_, fun b => ?_⟩
  case refine_3 =>
    rw [orderAt, slotAt_softStart]
    exact ⟨rfl, rfl⟩
  case refine_18 =>
    rw [bayAt_softStart]
    rfl
  all_goals simp [softStart, queueAt]
  all_goals rfl

end

/-- A cause of reset when its end is taken (log 9). -/
theorem taken_eq (p : ResetPhase) : p.taken = if p = .under then .under else .over := by
  cases p
  all_goals rfl

theorem dropped_high_iff (cs : ChipSelect) : cs.dropped = .high ↔ cs = .high := by
  cases cs with
  | high | low | ignored => simp [ChipSelect.dropped]

theorem dropped_of_low {cs : ChipSelect} (low : cs ≠ .high) : cs.dropped = .ignored := by
  cases cs with
  | high => exact absurd rfl low
  | low | ignored => rfl

/-! ### The values that a cold reset leaves -/

/-- The values that a power-on or pin reset of `s` leaves beside those of every reset. -/
def ColdValues (s t : State) : Prop :=
  ResetValues t ∧ attnLine t = !t.pins.held
  ∧ t.pins = { supply := t.pins.supply, resetN := t.pins.resetN, cs := t.pins.cs, inBits := [], driven := 0, rose := false }
  ∧ (s.pins.cs = .high → t.pins.cs = .high) ∧ (s.pins.cs ≠ .high → t.pins.cs = .ignored)
  ∧ (∀ i, (slotAt t i).gen = 0) ∧ (∀ b, (bayAt t b).enabled = false)
  ∧ t.clock = 0 ∧ t.phase = 0 ∧ t.mask = 0xFF ∧ t.curtailCap = 0 ∧ t.fallbackCap = 0
  ∧ t.tuning = { period := 15, dead := 180, lead := 1800, stale := 30, band := 10
                 selection := { cabinLimit := true, overdraw := true, hvacFault := true, silent := false } }

section
variable {s t : State} {supply resetN : ResetPhase} {curt : CurtFilter} {profiles : List Profile} {ceiling : Nat}

theorem coldValues_of_sampled (sampled : Sampled (coldStart s { s.pins.afterReset with supply := supply, resetN := resetN } curt profiles
    ceiling) t) : ColdValues s t := by
  have values := sampled.resetValues (emptied_coldStart _ _ _ _ _)
  have pins := sampled.keeps State.pins fun _ _ _ _ => rfl
  have mask : t.mask = 0xFF := sampled.keeps State.mask fun _ _ _ _ => rfl
  have cs : t.pins.cs = s.pins.cs.dropped := congrArg Pins.cs pins
  refine ⟨values, attnLine_of_reset values mask, by rw [pins]; rfl, fun high => cs.trans ((dropped_high_iff _).2 high),
    fun low => cs.trans (dropped_of_low low), fun i => ?_, fun b => ?_, sampled.keeps State.clock fun _ _ _ _ => rfl,
    sampled.keeps State.phase fun _ _ _ _ => rfl, mask, sampled.keeps State.curtailCap fun _ _ _ _ => rfl,
    sampled.keeps State.fallbackCap fun _ _ _ _ => rfl, sampled.keeps State.tuning fun _ _ _ _ => rfl⟩
  · rw [(sampled.slot i).2.2, slotAt_coldStart]
    rfl
  · rw [sampled.bay, bayAt_coldStart]
    rfl

end

/-- What a power-on reset leaves (R101, R103, R149). -/
theorem powerOnReset_values (curt : Bool) (s : State) :
    ColdValues s (powerOnReset curt s) ∧ (powerOnReset curt s).profiles = [] ∧ (powerOnReset curt s).ceiling = 0
      ∧ (powerOnReset curt s).workingCap = 0
      ∧ (powerOnReset curt s).pins.supply = (if s.pins.supply = .under then .under else .over)
      ∧ (powerOnReset curt s).pins.resetN = s.pins.resetN
      ∧ (powerOnReset curt s).curt = { line := curt, level := curt, since := 0 } := by
  have sampled := (emptied_coldStart s { s.pins.afterReset with supply := s.pins.supply.taken } (.steady curt) [] 0).sampleLine
  rw [← powerOnReset_eq] at sampled
  have pins := sampled.keeps State.pins fun _ _ _ _ => rfl
  exact ⟨coldValues_of_sampled sampled, sampled.keeps State.profiles fun _ _ _ _ => rfl,
    sampled.keeps State.ceiling fun _ _ _ _ => rfl, sampled.keeps State.workingCap fun _ _ _ _ => rfl,
    (congrArg Pins.supply pins).trans (taken_eq _), by rw [pins]; rfl, sampled.curt⟩

/-- What a pin reset leaves: profiles and ceiling are kept (R71, R101). -/
theorem pinReset_values (curt : Bool) (s : State) :
    ColdValues s (pinReset curt s) ∧ (pinReset curt s).profiles = s.profiles ∧ (pinReset curt s).ceiling = s.ceiling
      ∧ (pinReset curt s).workingCap = s.ceiling ∧ (pinReset curt s).pins.supply = s.pins.supply
      ∧ (pinReset curt s).pins.resetN = (if s.pins.resetN = .under then .under else .over)
      ∧ (pinReset curt s).curt = seen s.curt curt := by
  have sampled := (emptied_coldStart s { s.pins.afterReset with resetN := s.pins.resetN.taken } (s.curt.settle curt) s.profiles
    s.ceiling).sampleLine
  rw [← pinReset_eq] at sampled
  have pins := sampled.keeps State.pins fun _ _ _ _ => rfl
  exact ⟨coldValues_of_sampled sampled, sampled.keeps State.profiles fun _ _ _ _ => rfl,
    sampled.keeps State.ceiling fun _ _ _ _ => rfl, sampled.keeps State.workingCap fun _ _ _ _ => rfl,
    by rw [pins]; rfl, (congrArg Pins.resetN pins).trans (taken_eq _), sampled.curt.trans (settle_eq _ _)⟩

/-- What a soft reset leaves, and what it keeps (R31, R70, R101, R181). -/
theorem softReset_values (s : State) :
    ResetValues (softReset s) ∧ (softReset s).curt = s.curt ∧ (softReset s).pins = s.pins
      ∧ (∀ i, (slotAt (softReset s) i).gen = (slotAt s i).gen) ∧ (∀ b, (bayAt (softReset s) b).enabled = (bayAt s b).enabled)
      ∧ (softReset s).clock = s.clock ∧ (softReset s).phase = s.phase ∧ (softReset s).mask = s.mask
      ∧ (softReset s).tuning = s.tuning ∧ (softReset s).profiles = s.profiles ∧ (softReset s).ceiling = s.ceiling
      ∧ (softReset s).workingCap = s.workingCap ∧ (softReset s).curtailCap = s.curtailCap
      ∧ (softReset s).fallbackCap = s.fallbackCap ∧ (softReset s).windows = s.windows := by
  have sampled := (emptied_softStart s).sampleLine
  rw [← softReset_eq] at sampled
  have keeps {α : Type} (read : State → α) (apart) (before : read (softStart s) = read s) : read (softReset s) = read s :=
    (sampled.keeps read apart).trans before
  refine ⟨sampled.resetValues (emptied_softStart s), keeps State.curt (fun _ _ _ _ => rfl) ?_, keeps State.pins (fun _ _ _ _ => rfl) ?_,
    fun i => ?_, fun b => ?_, keeps State.clock (fun _ _ _ _ => rfl) ?_, keeps State.phase (fun _ _ _ _ => rfl) ?_,
    keeps State.mask (fun _ _ _ _ => rfl) ?_, keeps State.tuning (fun _ _ _ _ => rfl) ?_,
    keeps State.profiles (fun _ _ _ _ => rfl) ?_, keeps State.ceiling (fun _ _ _ _ => rfl) ?_,
    keeps State.workingCap (fun _ _ _ _ => rfl) ?_, keeps State.curtailCap (fun _ _ _ _ => rfl) ?_,
    keeps State.fallbackCap (fun _ _ _ _ => rfl) ?_, keeps State.windows (fun _ _ _ _ => rfl) ?_⟩
  case refine_3 =>
    rw [(sampled.slot i).2.2, slotAt_softStart]
    rfl
  case refine_4 =>
    rw [sampled.bay, bayAt_softStart]
    rfl
  all_goals simp [softStart]

/-! ### The pins while the part is held (R141, R172, R201) -/

section
variable {s : State} {e : PinEdge}

theorem not_receiving_of_held (held : s.pins.held = true) : receiving s = false := by simp [receiving, held]

theorem not_receiving_of_ignored (ignored : s.pins.cs = .ignored) : receiving s = false := by simp [receiving, ignored]

theorem pinEdge_csRise (idle : receiving s = false) : pinEdge .csRise s = { s with pins := { s.pins with cs := .high } } := by
  simp [pinEdge, endTransfer, idle]

/-- A held part takes no edge of the port but for the level of CS_N that it tracks. -/
theorem pinEdge_of_held (held : s.pins.held = true) (port : PortEdge e) :
    ∃ cs, pinEdge e s = { s with pins := { s.pins with cs := cs } } := by
  have idle := not_receiving_of_held held
  rcases port with rfl | rfl | rfl | ⟨mosi, rfl⟩
  · by_cases high : s.pins.cs = .high
    · exact ⟨.ignored, by simp [pinEdge, beginTransfer, high, held]⟩
    · exact ⟨s.pins.cs, by simp [pinEdge, beginTransfer, high]⟩
  · exact ⟨.high, pinEdge_csRise idle⟩
  · exact ⟨s.pins.cs, (pinEdge_ignored idle).2.1⟩
  · exact ⟨s.pins.cs, (pinEdge_ignored idle).1 mosi⟩

/-- A CS_N that was low when the reset ended is ignored until it has risen (R172). -/
theorem pinEdge_of_ignored (ignored : s.pins.cs = .ignored) (port : PortEdge e) :
    pinEdge e s = if e = .csRise then { s with pins := { s.pins with cs := .high } } else s := by
  have idle := not_receiving_of_ignored ignored
  rcases port with rfl | rfl | rfl | ⟨mosi, rfl⟩
  · simp [pinEdge, beginTransfer, ignored]
  · exact pinEdge_csRise idle
  · exact (pinEdge_ignored idle).2.1
  · exact (pinEdge_ignored idle).1 mosi

/-- A reset that begins drops the transfer under way. -/
theorem pinEdge_enterReset (begins : e = .resetFall ∨ e = .supplyOn) :
    pinEdge e s =
      { s with
        rx := .empty
        pins :=
          { supply := if e = .supplyOn then .under else s.pins.supply
            resetN := if e = .resetFall then .under else s.pins.resetN
            cs := s.pins.cs.dropped, inBits := [], driven := 0, rose := false } } := by
  rcases begins with rfl | rfl
  · rfl
  · rfl

end

/-- Settles O53: the emptied part of each reset, its sample of CURT, and the pins while the part is held. -/
theorem resetsLeaveTheirValues : Obligations.ResetsLeaveTheirValues := by
  intro curt s
  refine ⟨held_eq_false, fun e held port => pinEdge_of_held held port, fun held => ?_, fun e _ ignored port => ?_, fun e begins => ?_,
    rfl, rfl, ⟨_, rfl, powerOnReset_values curt s⟩, ⟨_, rfl, pinReset_values curt s⟩, ⟨_, rfl, softReset_values s⟩⟩
  · exact ⟨(pinEdge_ignored (not_receiving_of_held held)).2.2, by simp [attnLine, held], fun later => linkLevel_of_break (.inl held) later⟩
  · exact ⟨(pinEdge_ignored (not_receiving_of_ignored ignored)).2.2, pinEdge_of_ignored ignored port⟩
  · exact ⟨s.pins.cs.dropped, pinEdge_enterReset begins, dropped_high_iff _⟩

end

end Sys2Proof.Protection
end

section
/-! What a valid arrival does to the head of its bay (R29, R30, R52 to R54, R156 to R160): the causes it finds, the energy, and
the closing of an unplugged order. -/

namespace Sys2Proof.Protection

open Sys2Proof.Machine Sys2Proof.Safety Sys2Proof.OrderTable Sys2Proof.BayLink

/-! ### Several causes at one head (R159, R160) -/

theorem laterCauses_append (first : Cause) (set : CauseSet) (xs ys : List Cause) :
    laterCauses first (laterCauses first set xs) ys = laterCauses first set (xs ++ ys) := by
  simp [laterCauses, or_and_right, Bool.or_assoc]

section
variable (now : Nat) (cabin : Option Int) (c : Cause) (rest : List Cause) (o : Order)

theorem state_afterCauses_one : (afterCauses now cabin [c] o).state = .tripped := by
  unfold afterCauses
  dsimp only
  split
  · next tripped => exact tripped
  · rfl

/-- The causes join a trip record one after the other. -/
theorem afterCauses_cons : afterCauses now cabin (c :: rest) o = afterCauses now cabin rest (afterCauses now cabin [c] o) := by
  have next := state_afterCauses_one now cabin c o
  cases rest with
  | nil => rfl
  | cons d rest =>
    have joined : afterCauses now cabin (d :: rest) (afterCauses now cabin [c] o)
        = { afterCauses now cabin [c] o with
            trip := (afterCauses now cabin [c] o).trip.map fun r => { r with later := laterCauses r.first r.later (d :: rest) } } :=
      if_pos next
    rw [joined]
    by_cases tripped : o.state = .tripped
    · simp [afterCauses, tripped, Function.comp_def, laterCauses_append]
    · simp [afterCauses, tripped, laterCauses_append]

theorem afterCauses_keeps (found : List Cause) :
    (afterCauses now cabin found o).bay = o.bay ∧ (afterCauses now cabin found o).started = o.started
      ∧ (afterCauses now cabin found o).energy = o.energy ∧ (afterCauses now cabin found o).remainder = o.remainder := by
  unfold afterCauses
  repeat' split
  all_goals exact ⟨rfl, rfl, rfl, rfl⟩

theorem live_afterCauses (found : List Cause) (live : o.live = true) : (afterCauses now cabin found o).live = true := by
  rw [live_iff] at live ⊢
  unfold afterCauses
  repeat' split
  · exact live
  · exact live
  · exact nofun

end

/-! ### The state while an arrival is judged -/

/-- The head of a bay written as the order `n`, all else of the orders as before; a trip sets its change mark, raises its flag
and zeroes the pending grant (R159). -/
structure HeadWritten (b : Fin 32) (i : Fin 48) (trips : Bool) (s : State) (n : Order) (w : State) : Prop where
  queues : w.queues = s.queues
  clock : w.clock = s.clock
  tuning : w.tuning = s.tuning
  head : slotAt w i = { slotAt s i with order := some n, changeMark := (slotAt s i).changeMark || trips }
  others : ∀ j, j ≠ i → slotAt w j = slotAt s j
  flags : w.flags = if trips then s.flags ||| 0x02 else s.flags
  bay : bayAt w b = if trips then (bayAt s b).offer .off 0 else bayAt s b

section
variable {b : Fin 32} {i : Fin 48} {trips : Bool} {s w : State} {n o : Order} {c : Cause}

theorem HeadWritten.refl (order : orderAt s i = some o) (b : Fin 32) : HeadWritten b i false s o s := by
  refine ⟨rfl, rfl, rfl, ?_, fun _ _ => rfl, rfl, rfl⟩
  rw [Bool.or_false, ← order]
  rfl

theorem HeadWritten.queue (h : HeadWritten b i trips s n w) (a : Fin 32) : queueAt w a = queueAt s a :=
  congrArg (fun queues : Vector (List (Fin 48)) 32 => queues[a]) h.queues

theorem HeadWritten.headOrder (h : HeadWritten b i trips s n w) (first : HeadOf s b i) : headOrder w b = some (i, n) := by
  refine (headOrder_iff w b i n).2 ⟨?_, congrArg Slot.order h.head⟩
  rw [HeadOf, h.queue]
  exact first

/-- The head order alone is written once more. -/
theorem HeadWritten.putOrder (h : HeadWritten b i trips s n w) (m : Order) : HeadWritten b i trips s m (putOrder w i m) := by
  refine ⟨h.queues, h.clock, h.tuning, ?_, fun j other => ?_, h.flags, h.bay⟩
  · rw [slotAt_putOrder, if_pos rfl, h.head]
  · rw [slotAt_putOrder, if_neg other]
    exact h.others j other

theorem HeadWritten.handleCause (h : HeadWritten b i trips s n w) (first : HeadOf s b i) (tripped : n.state = .tripped)
    (selected : s.tuning.selection.has c = true) (now : Nat) (cabin : Option Int) :
    HeadWritten b i trips s (afterCauses now cabin [c] n) (handleCause b w c) := by
  rw [handleCause_of_tripped (h.headOrder first) (h.tuning ▸ selected) tripped, afterCauses_of_tripped tripped]
  exact h.putOrder _

/-- Causes found at a TRIPPED head join its trip record (R160). -/
theorem HeadWritten.handleCauses (h : HeadWritten b i trips s n w) (first : HeadOf s b i) (tripped : n.state = .tripped)
    {found : List Cause} (selected : ∀ c ∈ found, s.tuning.selection.has c = true) (now : Nat) (cabin : Option Int) :
    HeadWritten b i trips s (afterCauses now cabin found n) (found.foldl (Machine.handleCause b) w) := by
  induction found generalizing n w with
  | nil => exact h
  | cons c rest ih =>
    rw [List.foldl_cons, afterCauses_cons]
    exact ih (h.handleCause first tripped (selected c List.mem_cons_self) now cabin) (state_afterCauses_one now cabin c n)
      fun d mem => selected d (List.mem_cons_of_mem c mem)

/-- A selected cause trips a head that is not TRIPPED yet (R159). -/
theorem headWritten_trip (sound : QueuesSound s) (first : HeadOf s b i) (order : orderAt s i = some o) (untripped : o.state ≠ .tripped)
    (selected : s.tuning.selection.has c = true) :
    HeadWritten b i true s (afterCauses s.clock (cabinAt s b) [c] o) (handleCause b s c) := by
  obtain ⟨-, slots, -, trips, -⟩ := causeHandled (b := b) (c := c) sound
  obtain ⟨head, flags, bay⟩ := trips i o first order selected untripped
  have others (j : Fin 48) (other : j ≠ i) : slotAt (handleCause b s c) j = slotAt s j :=
    slots j fun first' => other (Option.some.inj (first'.symm.trans first))
  obtain ⟨_, _, _, writes⟩ := handleCause_writes b s c
  refine ⟨by rw [writes], by rw [writes], by rw [writes], ?_, others, flags, bay⟩
  rw [head, Bool.or_true]

/-- The selected causes found at a head, the first of them tripping it (R158 to R160). -/
theorem headWritten_causes (sound : QueuesSound s) (first : HeadOf s b i) (order : orderAt s i = some o) {found : List Cause}
    (selected : ∀ c ∈ found, s.tuning.selection.has c = true) :
    HeadWritten b i (decide (found ≠ [] ∧ o.state ≠ .tripped)) s (afterCauses s.clock (cabinAt s b) found o)
      (found.foldl (handleCause b) s) := by
  have start := HeadWritten.refl order b
  by_cases tripped : o.state = .tripped
  · have joins := start.handleCauses first tripped selected s.clock (cabinAt s b)
    simpa [tripped] using joins
  cases found with
  | nil => simpa [afterCauses] using start
  | cons c rest =>
    have trips := headWritten_trip sound first order tripped (selected c List.mem_cons_self)
    have joins := trips.handleCauses first (state_afterCauses_one _ _ c o) (fun d mem => selected d (List.mem_cons_of_mem c mem))
      s.clock (cabinAt s b)
    rw [← afterCauses_cons] at joins
    simpa [tripped] using joins

/-- Causes that are not selected do nothing (R158). -/
theorem handleCauses_selected (b : Fin 32) (found : List Cause) (s : State) :
    found.foldl (handleCause b) s = (found.filter s.tuning.selection.has).foldl (handleCause b) s := by
  induction found generalizing s with
  | nil => rfl
  | cons c rest ih =>
    have tuning : (handleCause b s c).tuning = s.tuning := by
      obtain ⟨_, _, _, writes⟩ := handleCause_writes b s c
      rw [writes]
    rw [List.foldl_cons, ih, tuning]
    cases selected : s.tuning.selection.has c with
    | true => rw [List.filter_cons_of_pos selected, List.foldl_cons]
    | false => rw [List.filter_cons_of_neg (by simp [selected]), handleCause_of_unselected selected]

/-! ### Energy (R29, R52) -/

/-- An order to which an arrival has added its energy, once it is started. -/
def charged (o : Order) (power dt : Nat) : Order := if o.started then addEnergy o power dt else o

theorem HeadWritten.accumulate (h : HeadWritten b i trips s n w) (first : HeadOf s b i) (live : n.live = true) (power : Nat)
    (stamp : Option Nat) :
    HeadWritten b i trips s (charged n power (energyInterval s.clock stamp)) (accumulate w b power stamp) := by
  have head := h.headOrder first
  unfold Machine.accumulate charged
  simp only [head, live, Bool.true_and, h.clock]
  split
  · exact h.putOrder _
  · exact h

theorem charged_keeps (o : Order) (power dt : Nat) :
    (charged o power dt).bay = o.bay ∧ (charged o power dt).started = o.started ∧ (charged o power dt).state = o.state := by
  unfold charged
  split
  · exact ⟨rfl, rfl, rfl⟩
  · exact ⟨rfl, rfl, rfl⟩

end

/-! ### The closing of an unplugged order (R10, R30) -/

/-- What an arrival leaves of the orders: the head as `n`, the rest as the head change has it (R9, R94). -/
structure HeadSettled (b : Fin 32) (i : Fin 48) (s : State) (n : Order) (changed : Bool) (u : State) : Prop where
  head : slotAt u i = { slotAt s i with order := some n, changeMark := changed }
  others : ∀ j, j ≠ i → slotAt u j = reheadSlot (isHead s b j) (isHead u b j) (slotAt s j)

section
variable {b : Fin 32} {i : Fin 48} {trips : Bool} {s w : State} {n o : Order} {t : Telemetry}

theorem HeadWritten.settled (h : HeadWritten b i trips s n w) :
    HeadSettled b i s n ((slotAt s i).changeMark || trips) w := by
  refine ⟨h.head, fun j other => ?_⟩
  rw [isHead_congr (h.queue b), reheadSlot_same]
  exact h.others j other

/-- A sound queue without its head is its tail. -/
theorem queueLeft_head (sound : QueuesSound s) (first : HeadOf s b i) : queueLeft s b [i] = (queueAt s b).tail := by
  have nodup := nodup_of_apart ((queuesSound_iff s).1 sound b).apart
  rw [queueLeft_singleton]
  unfold HeadOf at first
  cases queue : queueAt s b with
  | nil => simp [queue] at first
  | cons j rest =>
    rw [queue] at first nodup
    obtain rfl : j = i := Option.some.inj first
    have absent := (List.nodup_cons.1 nodup).1
    rw [List.filter_cons_of_neg (by simp), List.tail_cons]
    exact List.filter_eq_self.2 fun k mem => by simpa using fun same : k = j => absent (same ▸ mem)

/-- The head closed after it was written: the record, the queue, the flag and the pending grant (R10). -/
theorem HeadWritten.closed (h : HeadWritten b i trips s n w) (sound : QueuesSound s) (first : HeadOf s b i)
    (order : orderAt s i = some o) (bay : n.bay = o.bay) :
    HeadSettled b i s (closedAs s.clock (cabinAt w b) .unplugged n) ((slotAt s i).changeMark || trips) (closeOrder w i .unplugged)
      ∧ queueAt (closeOrder w i .unplugged) b = (queueAt s b).tail
      ∧ (∀ a, a ≠ b → queueAt (closeOrder w i .unplugged) a = queueAt s a)
      ∧ (closeOrder w i .unplugged).flags = w.flags ||| 0x01
      ∧ bayAt (closeOrder w i .unplugged) b = (bayAt w b).offer .off 0 := by
  have here : n.bay = b := bay.trans (bay_of_mem_queue sound (List.mem_of_head? first) order).1
  have order' : orderAt w i = some n := congrArg Slot.order h.head
  have first' : HeadOf w b i := ((headOrder_iff w b i n).1 (h.headOrder first)).1
  rw [closeOrder_of_order order', closedOrder_eq, here]
  have record : closedAs w.clock ((bayAt w b).tele.map (·.cabin)) .unplugged n = closedAs s.clock (cabinAt w b) .unplugged n := by
    rw [h.clock]
    rfl
  have written := h.putOrder (closedAs s.clock (cabinAt w b) .unplugged n)
  rw [record]
  have leaving : Leaving [i] (Machine.putOrder w i (closedAs s.clock (cabinAt w b) .unplugged n)) := by
    refine RecordsClosed.leaving (s := s) ⟨written.queue, fun j mem => ?_, fun j other => ?_⟩ sound
    · obtain rfl := List.mem_singleton.1 mem
      exact ⟨o, _, order, orderAt_putOrder_self w j _, bay, rfl⟩
    · exact congrArg Slot.order (written.others j (by simpa using other))
  generalize closedAs s.clock (cabinAt w b) .unplugged n = closedOne at written leaving ⊢
  have left : queueLeft (Machine.putOrder w i closedOne) b [i] = (queueAt s b).tail := by
    rw [← queueLeft_head sound first]
    unfold queueLeft
    rw [written.queue]
  refine ⟨⟨?_, fun j other => ?_⟩, ?_, fun a other => ?_, ?_, ?_⟩
  · rw [slotAt_raise, leaving.slot_gone b (List.mem_singleton_self i)]
    exact written.head
  · rw [slotAt_raise, leaving.slot b (by simpa using other), written.others j other, isHead_congr (written.queue b)]
    rfl
  · exact (queueAt_leaveQueue _ b b [i]).trans ((if_pos rfl).trans left)
  · exact (queueAt_leaveQueue _ b a [i]).trans ((if_neg other).trans (written.queue a))
  · obtain ⟨_, _, _, writes⟩ := leaveQueue_writes (Machine.putOrder w i closedOne) b [i]
    rw [writes]
    rfl
  · have first'' : HeadOf (Machine.putOrder w i closedOne) b i := first'
    rw [bayAt_raise, bayAt_leaveQueue_of_head_gone first'' (List.mem_singleton_self i), if_pos rfl]
    rfl

end

end Sys2Proof.Protection
end

section
/-! A valid arrival as a whole (R134, R135): the record, the causes it finds, the energy and the closing, in that order. -/

namespace Sys2Proof.Protection

open Sys2Proof.Machine Sys2Proof.Safety Sys2Proof.OrderTable Sys2Proof.BayLink

/-! ### The causes that an arrival finds (R156) -/

section
variable {s : State} {b : Fin 32} {i : Fin 48} {o : Order} {t : Telemetry}

/-- The cabin is out of its limit at an arrival for a head with that target. -/
def BeyondLimit (mode : Mode) (cabin target : Int) : Prop := (mode = .heat ∧ 450 < cabin) ∨ (mode = .cool ∧ cabin < target - 60)

theorem cabinLimitFound_iff (head : headOrder s b = some (i, o)) (live : o.live = true) :
    cabinLimitFound s b t = true ↔ BeyondLimit (bayAt s b).applied.mode t.cabin o.target := by
  unfold cabinLimitFound BeyondLimit
  cases mode : (bayAt s b).applied.mode with
  | off => simp
  | heat => simp
  | cool => simp [head, live]

/-- The selected causes among those that an arrival finds, in the order of R156. -/
theorem selected_causesFound (shows : Cause → Bool) (limit : cabinLimitFound s b t = shows .cabinLimit)
    (overdraw : decide ((bayAt s b).overdraw = 2) = shows .overdraw) (hvac : decide (t.hvac = .fault) = shows .hvacFault)
    (selection : CauseSet) :
    (causesFound s b t).filter selection.has
      = [Cause.cabinLimit, .overdraw, .hvacFault].filter fun c => inSet selection c && shows c := by
  have found : causesFound s b t = [Cause.cabinLimit, .overdraw, .hvacFault].filter shows := by
    simp only [causesFound, List.filter_cons, List.filter_nil, ← limit, ← overdraw, ← hvac, decide_eq_true_eq]
    repeat' split
    all_goals rfl
  rw [found, List.filter_filter]
  refine List.filter_congr fun c _ => ?_
  rw [Bool.eq_iff_iff.2 (has_iff selection c)]

end

/-! ### The head after the causes and the energy -/

/-- The head order after an arrival that found `found`, before an unplugged one is closed. -/
def headAfter (now : Nat) (cabin : Int) (found : List Cause) (power : Nat) (stamp : Option Nat) (o : Order) : Order :=
  charged (afterCauses now (some cabin) found o) power (energyInterval now stamp)

/-- Whether the causes found trip a head. -/
def tripsHead (found : List Cause) (o : Order) : Bool := decide (found ≠ [] ∧ o.state ≠ .tripped)

theorem headAfter_eq (now : Nat) (cabin : Int) (found : List Cause) (power : Nat) (stamp : Option Nat) (o : Order) :
    headAfter now cabin found power stamp o =
      if o.started then
        { afterCauses now (some cabin) found o with
          energy := min (o.energy + (o.remainder + power * energyInterval now stamp) / 3600) 4294967295
          remainder := (o.remainder + power * energyInterval now stamp) % 3600 }
      else afterCauses now (some cabin) found o := by
  obtain ⟨-, started, energy, remainder⟩ := afterCauses_keeps now (some cabin) o found
  rw [← started, ← energy, ← remainder]
  rfl

theorem headAfter_keeps (now : Nat) (cabin : Int) (found : List Cause) (power : Nat) (stamp : Option Nat) (o : Order) :
    (headAfter now cabin found power stamp o).bay = o.bay ∧ (headAfter now cabin found power stamp o).started = o.started := by
  obtain ⟨bay, started, -⟩ := afterCauses_keeps now (some cabin) o found
  obtain ⟨bay', started', -⟩ := charged_keeps (afterCauses now (some cabin) found o) power (energyInterval now stamp)
  exact ⟨bay'.trans bay, started'.trans started⟩

theorem live_headAfter {o : Order} (live : o.live = true) (now : Nat) (cabin : Int) (found : List Cause) (power : Nat)
    (stamp : Option Nat) : (headAfter now cabin found power stamp o).live = true := by
  have live' := (live_iff _).1 (live_afterCauses now (some cabin) o found live)
  obtain ⟨-, -, state⟩ := charged_keeps (afterCauses now (some cabin) found o) power (energyInterval now stamp)
  rw [live_iff, headAfter, state]
  exact live'

section
variable {b : Fin 32} {i : Fin 48} {trips : Bool} {s w : State} {n o : Order} {t : Telemetry}

theorem HeadWritten.cabin (h : HeadWritten b i trips s n w) : cabinAt w b = cabinAt s b := by
  unfold cabinAt
  rw [h.bay]
  split
  · rw [offer_tele]
  · rfl

theorem HeadWritten.testUnplug_stays (h : HeadWritten b i trips s n w) (first : HeadOf s b i)
    (stays : ¬(t.connector = .unplugged ∧ n.started = true)) : testUnplug w b t = w := by
  have other : ¬(t.connector = .unplugged ∧ n.live = true ∧ n.started = true) := fun leaves => stays ⟨leaves.1, leaves.2.2⟩
  simp only [testUnplug, h.headOrder first, if_neg other]

theorem HeadWritten.testUnplug_leaves (h : HeadWritten b i trips s n w) (first : HeadOf s b i) (live : n.live = true)
    (unplugged : t.connector = .unplugged) (started : n.started = true) : testUnplug w b t = closeOrder w i .unplugged := by
  have closes : t.connector = .unplugged ∧ n.live = true ∧ n.started = true := ⟨unplugged, live, started⟩
  simp only [testUnplug, h.headOrder first, if_pos closes]

end

/-! ### The arrival -/

/-- The state with the record of an arrival, its power counted, in which the causes are found (R134, R155). -/
def arrivedState (s : State) (b : Fin 32) (seqSent echo : Nat) (t : Telemetry) : State := setBay s b (arrivedBay s b seqSent echo t)

section
variable {s : State} {b : Fin 32} {i : Fin 48} {o : Order} {seqSent echo : Nat} {t : Telemetry}

theorem validArrival_of_record (s : State) (b : Fin 32) (seqSent echo : Nat) (t : Telemetry) :
    validArrival s b seqSent echo t
      = testUnplug (accumulate ((causesFound (arrivedState s b seqSent echo t) b t).foldl (handleCause b)
          (arrivedState s b seqSent echo t)) b t.power (bayAt s b).stamp) b t := by
  unfold validArrival protectArrival
  dsimp only
  rw [setBay_setBay, bayAt_setBay_self]
  rfl

/-- A bay without a live order: the record is all (R135). -/
theorem validArrival_of_no_head (empty : queueAt s b = []) : validArrival s b seqSent echo t = arrivedState s b seqSent echo t := by
  have empty' : queueAt (arrivedState s b seqSent echo t) b = [] := empty
  have none := headOrder_none empty'
  have ignored : (causesFound (arrivedState s b seqSent echo t) b t).foldl (handleCause b) (arrivedState s b seqSent echo t)
      = arrivedState s b seqSent echo t :=
    foldl_keeps (fun u => u = arrivedState s b seqSent echo t) _ (fun u c same => by
      subst same
      exact handleCause_of_no_head empty') _ _ rfl
  rw [validArrival_of_record, ignored]
  simp only [accumulate, testUnplug, none]

/-- The causes that trip the head or join its record. -/
def foundAt (s : State) (b : Fin 32) (seqSent echo : Nat) (t : Telemetry) : List Cause :=
  (causesFound (arrivedState s b seqSent echo t) b t).filter s.tuning.selection.has

/-- The head written as the causes and the energy leave it, before the connector is looked at. -/
theorem headWritten_arrival (sound : QueuesSound s) (first : HeadOf s b i) (order : orderAt s i = some o)
    (seqSent echo : Nat) (t : Telemetry) :
    HeadWritten b i (tripsHead (foundAt s b seqSent echo t) o) (arrivedState s b seqSent echo t)
      (headAfter s.clock t.cabin (foundAt s b seqSent echo t) t.power (bayAt s b).stamp o)
      (accumulate ((causesFound (arrivedState s b seqSent echo t) b t).foldl (handleCause b) (arrivedState s b seqSent echo t))
        b t.power (bayAt s b).stamp) := by
  have sound' : QueuesSound (arrivedState s b seqSent echo t) := queuesSound_frame sound rfl rfl
  have first' : HeadOf (arrivedState s b seqSent echo t) b i := first
  have order' : orderAt (arrivedState s b seqSent echo t) i = some o := order
  have cabin : cabinAt (arrivedState s b seqSent echo t) b = some t.cabin := by
    unfold cabinAt arrivedState
    rw [bayAt_setBay_self]
    rfl
  have live := (live_iff o).2 (bay_of_mem_queue sound (List.mem_of_head? first) order).2
  have written := headWritten_causes sound' first' order' (found := foundAt s b seqSent echo t) fun c mem => (List.mem_filter.1 mem).2
  rw [cabin] at written
  rw [handleCauses_selected]
  exact written.accumulate first' (live_afterCauses _ _ o _ live) t.power (bayAt s b).stamp

/-- An arrival that leaves its order in place. -/
theorem validArrival_stays (sound : QueuesSound s) (first : HeadOf s b i) (order : orderAt s i = some o)
    (stays : ¬(t.connector = .unplugged ∧ o.started = true)) :
    HeadWritten b i (tripsHead (foundAt s b seqSent echo t) o) (arrivedState s b seqSent echo t)
      (headAfter s.clock t.cabin (foundAt s b seqSent echo t) t.power (bayAt s b).stamp o) (validArrival s b seqSent echo t) := by
  have written := headWritten_arrival sound first order seqSent echo t
  have started := (headAfter_keeps s.clock t.cabin (foundAt s b seqSent echo t) t.power (bayAt s b).stamp o).2
  have first' : HeadOf (arrivedState s b seqSent echo t) b i := first
  rw [validArrival_of_record, written.testUnplug_stays first' (by rwa [started])]
  exact written

/-- What a report of UNPLUGGED leaves of a started order and its bay, from the state with the record (R30, R10). -/
structure HeadClosed (b : Fin 32) (i : Fin 48) (trips : Bool) (r : State) (n : Order) (u : State) : Prop where
  settled : HeadSettled b i r n ((slotAt r i).changeMark || trips) u
  queue : queueAt u b = (queueAt r b).tail
  queues : ∀ a, a ≠ b → queueAt u a = queueAt r a
  flags : u.flags = (if trips then r.flags ||| 0x02 else r.flags) ||| 0x01
  bay : bayAt u b = (bayAt r b).offer .off 0

theorem validArrival_leaves (sound : QueuesSound s) (first : HeadOf s b i) (order : orderAt s i = some o)
    (unplugged : t.connector = .unplugged) (started : o.started = true) :
    HeadClosed b i (tripsHead (foundAt s b seqSent echo t) o) (arrivedState s b seqSent echo t)
      (closedAs s.clock (some t.cabin) .unplugged
        (headAfter s.clock t.cabin (foundAt s b seqSent echo t) t.power (bayAt s b).stamp o))
      (validArrival s b seqSent echo t) := by
  have written := headWritten_arrival sound first order seqSent echo t
  obtain ⟨bay, started'⟩ := headAfter_keeps s.clock t.cabin (foundAt s b seqSent echo t) t.power (bayAt s b).stamp o
  have live := (live_iff o).2 (bay_of_mem_queue sound (List.mem_of_head? first) order).2
  have live' := live_headAfter live s.clock t.cabin (foundAt s b seqSent echo t) t.power (bayAt s b).stamp
  have first' : HeadOf (arrivedState s b seqSent echo t) b i := first
  have order' : orderAt (arrivedState s b seqSent echo t) i = some o := order
  have sound' : QueuesSound (arrivedState s b seqSent echo t) := queuesSound_frame sound rfl rfl
  have cabin : cabinAt (arrivedState s b seqSent echo t) b = some t.cabin := by
    unfold cabinAt arrivedState
    rw [bayAt_setBay_self]
    rfl
  rw [validArrival_of_record, written.testUnplug_leaves first' live' unplugged (started'.trans started)]
  obtain ⟨⟨head, others⟩, queue, queues, flags, zeroed⟩ := written.closed sound' first' order' bay
  rw [written.cabin, cabin] at head
  refine ⟨⟨head, others⟩, queue, queues, flags.trans (congrArg (· ||| 0x01) written.flags), ?_⟩
  rw [zeroed, written.bay]
  split
  · exact offer_offer_same _ _ _
  · rfl

/-- The causes found are those that the record of the bay shows after the arrival (R156). -/
theorem foundAt_eq (sound : QueuesSound s) (first : HeadOf s b i) (order : orderAt s i = some o) {new : Bay}
    (applied : new.applied = (arrivedBay s b seqSent echo t).applied) (overdraw : new.overdraw = (arrivedBay s b seqSent echo t).overdraw)
    (shows : Cause → Bool) (limit : shows .cabinLimit = true ↔ BeyondLimit new.applied.mode t.cabin o.target)
    (overdrawn : shows .overdraw = decide (new.overdraw = 2)) (hvac : shows .hvacFault = decide (t.hvac = .fault)) :
    foundAt s b seqSent echo t
      = [Cause.cabinLimit, .overdraw, .hvacFault].filter fun c => inSet s.tuning.selection c && shows c := by
  have bay : bayAt (arrivedState s b seqSent echo t) b = arrivedBay s b seqSent echo t := bayAt_setBay_self _ _ _
  have head : headOrder (arrivedState s b seqSent echo t) b = some (i, o) := (headOrder_iff _ b i o).2 ⟨first, order⟩
  have live := (live_iff o).2 (bay_of_mem_queue sound (List.mem_of_head? first) order).2
  refine selected_causesFound shows (Bool.eq_iff_iff.2 ?_) ?_ hvac.symm _
  · rw [cabinLimitFound_iff head live, limit, bay, applied]
  · rw [overdrawn, bay, overdraw]

/-- What an arrival with the causes `found` leaves of the orders, the flags and the pending grant, told from the state `s` before it
(R10, R30, R94, R159). -/
structure ArrivalAtHead (s u : State) (b : Fin 32) (i : Fin 48) (o : Order) (t : Telemetry) (found : List Cause) : Prop where
  mark : (slotAt u i).changeMark = ((slotAt s i).changeMark || tripsHead found o)
  others : ∀ j, j ≠ i → slotAt u j = reheadSlot (isHead s b j) (isHead u b j) (slotAt s j)
  stays : ¬(t.connector = .unplugged ∧ o.started = true) →
    orderAt u i = some (headAfter s.clock t.cabin found t.power (bayAt s b).stamp o) ∧ u.queues = s.queues
      ∧ u.flags = (if tripsHead found o then s.flags ||| 0x02 else s.flags)
      ∧ (bayAt u b).pending = if tripsHead found o then ((bayAt s b).offer .off 0).pending else (bayAt s b).pending
  closes : t.connector = .unplugged → o.started = true →
    orderAt u i = some (closedAs s.clock (some t.cabin) .unplugged (headAfter s.clock t.cabin found t.power (bayAt s b).stamp o))
      ∧ queueAt u b = (queueAt s b).tail ∧ (∀ a, a ≠ b → queueAt u a = queueAt s a)
      ∧ u.flags = (if tripsHead found o then s.flags ||| 0x02 else s.flags) ||| 0x01
      ∧ (bayAt u b).pending = ((bayAt s b).offer .off 0).pending

theorem arrivalAtHead (sound : QueuesSound s) (first : HeadOf s b i) (order : orderAt s i = some o) (seqSent echo : Nat)
    (t : Telemetry) : ArrivalAtHead s (validArrival s b seqSent echo t) b i o t (foundAt s b seqSent echo t) := by
  have stays := validArrival_stays (t := t) (seqSent := seqSent) (echo := echo) sound first order
  have leaves := validArrival_leaves (t := t) (seqSent := seqSent) (echo := echo) sound first order
  have pending : (bayAt (arrivedState s b seqSent echo t) b).pending = (bayAt s b).pending := by
    rw [arrivedState, bayAt_setBay_self]
    exact pending_arrivedBay s b seqSent echo t
  generalize validArrival s b seqSent echo t = u at *
  have settled : ∃ m, HeadSettled b i (arrivedState s b seqSent echo t) m
      ((slotAt s i).changeMark || tripsHead (foundAt s b seqSent echo t) o) u := by
    by_cases closes : t.connector = .unplugged ∧ o.started = true
    · exact ⟨_, (leaves closes.1 closes.2).settled⟩
    · exact ⟨_, (stays closes).settled⟩
  obtain ⟨m, head, others⟩ := settled
  refine ⟨congrArg Slot.changeMark head, others, fun inPlace => ?_, fun unplugged started => ?_⟩
  · obtain ⟨queues, -, -, head, -, flags, bay⟩ := stays inPlace
    refine ⟨congrArg Slot.order head, queues, flags, ?_⟩
    rw [bay]
    split
    · exact offer_pending_congr pending _ _
    · exact pending
  · obtain ⟨⟨head, -⟩, queue, queues, flags, bay⟩ := leaves unplugged started
    exact ⟨congrArg Slot.order head, queue, queues, flags, (congrArg Bay.pending bay).trans (offer_pending_congr pending _ _)⟩

end

/-- The state in which the exchange of a reply window is over. -/
def windowClosed (s : State) : State := { s with exchange := none }

/-- A valid arrival from a bay without a live order writes the record of the bay alone. -/
theorem windowClose_of_no_head {s : State} {x : Exchange} {n : Nat} {chars : List RxChar} {echo : Nat} {t : Telemetry}
    (polled : s.exchange = some x) (cycle : s.cycle = some n) (judged : judgeReply x.bay chars = .valid echo t)
    (empty : queueAt s x.bay = []) :
    ∃ u, GoesOn n u (windowClose chars s) ∧ u = { s with exchange := none, bays := u.bays }
      ∧ (bayAt u x.bay).pending = (bayAt s x.bay).pending := by
  refine ⟨arrivedState (windowClosed s) x.bay x.seqSent echo t, ?_, rfl, ?_⟩
  · rw [windowClose_of_valid polled cycle judged]
    exact validArrival_of_no_head (s := windowClosed s) empty ▸ goOn_spec (validArrival (windowClosed s) x.bay x.seqSent echo t) n
  · rw [arrivedState, bayAt_setBay_self]
    exact pending_arrivedBay (windowClosed s) x.bay x.seqSent echo t

/-- Settles O48: the causes found are `foundAt_eq`, and the head as `arrivalAtHead` has it. -/
theorem validArrivalReachesTheHead : Obligations.ValidArrivalReachesTheHead := by
  refine ⟨fun s x n chars echo tele polled cycle judged empty => ?_,
    fun s x n chars echo tele i o sound polled cycle judged first order => ?_⟩
  · obtain ⟨u, goes, alone, pending⟩ := windowClose_of_no_head polled cycle judged empty
    exact ⟨u, _, rfl, goes, alone, pending⟩
  have sound' : QueuesSound (windowClosed s) := queuesSound_frame sound rfl rfl
  have first' : HeadOf (windowClosed s) x.bay i := first
  have order' : orderAt (windowClosed s) i = some o := order
  have touches := touches_validArrival (b := x.bay) sound' x.seqSent echo tele
  have found := foundAt_eq (t := tele) (seqSent := x.seqSent) (echo := echo)
    (new := bayAt (validArrival (windowClosed s) x.bay x.seqSent echo tele) x.bay) sound' first' order'
  obtain ⟨mark, others, stays, closes⟩ := arrivalAtHead sound' first' order' x.seqSent echo tele
  obtain ⟨g, record, -⟩ := touches.record
  rw [bayAt_setBay_self] at record
  refine ⟨validArrival (windowClosed s) x.bay x.seqSent echo tele, windowClose chars s, rfl, ?_, ?_, touches.marks,
    fun j other => ?_⟩
  · rw [windowClose_of_valid polled cycle judged]
    exact goOn_spec (validArrival (windowClosed s) x.bay x.seqSent echo tele) n
  · intro new limit
    refine ⟨foundAt (windowClosed s) x.bay x.seqSent echo tele, ?_, ?_⟩
    · refine found (by rw [record]) (by rw [record]) (fun c => match c with
        | .cabinLimit => decide limit
        | .overdraw => decide (new.overdraw = 2)
        | .hvacFault => decide (tele.hvac = .fault)
        | .silent => false) ?_ rfl rfl
      exact decide_eq_true_iff
    · intro tripped seconds after trips
      have interval : energyInterval s.clock (bayAt s x.bay).stamp = seconds := by
        unfold seconds energyInterval
        cases (bayAt s x.bay).stamp with
        | none => rfl
        | some prev => rfl
      have same : headAfter s.clock tele.cabin (foundAt (windowClosed s) x.bay x.seqSent echo tele) tele.power (bayAt s x.bay).stamp o
          = after := by rw [headAfter_eq, interval]
      have trip (now : trips) : tripsHead (foundAt (windowClosed s) x.bay x.seqSent echo tele) o = true := decide_eq_true now
      have noTrip (no : ¬trips) : tripsHead (foundAt (windowClosed s) x.bay x.seqSent echo tele) o = false := decide_eq_false no
      refine ⟨fun now => mark.trans (by rw [trip now, Bool.or_true]),
        fun no => mark.trans ((congrArg _ (noTrip no)).trans (Bool.or_false _)), fun inPlace => ?_, fun unplugged started => ?_⟩
      · obtain ⟨head, queues, flags, pending⟩ := stays inPlace
        refine ⟨head.trans (congrArg some same), queues, fun now => ?_, fun no => ?_⟩
        · rw [trip now, if_pos rfl] at flags pending
          exact ⟨flags, pending⟩
        · rw [noTrip no, if_neg Bool.false_ne_true] at flags pending
          exact ⟨flags, pending⟩
      · obtain ⟨head, queue, queues, flags, pending⟩ := closes unplugged started
        refine ⟨head.trans (congrArg (fun m => some (closedAs s.clock (some tele.cabin) .unplugged m)) same), queue, queues,
          fun now => ?_, fun no => ?_, pending⟩
        · rw [trip now, if_pos rfl] at flags
          exact flags
        · rw [noTrip no, if_neg Bool.false_ne_true] at flags
          exact flags
  · have slot := others j other
    rw [reheaded_eq]
    exact ⟨congrArg Slot.order slot, congrArg Slot.changeMark slot⟩

end Sys2Proof.Protection
end

section
/-! The frames of the control port (R171 to R178, R180): the bytes of a transfer judged as one frame, the decoder against the
encoder, and a transfer clocked in bit by bit. -/

namespace Sys2Proof.Port

open Sys2Proof.Machine Sys2Proof.Safety

/-! ### Fields of more than one byte (R184) -/

theorem bytes16_word16 (hi lo : Byte) : bytes16 (word16 hi lo) = [hi, lo] := by
  simp only [bytes16, word16, List.cons.injEq, and_true]
  exact ⟨BitVec.extractLsb'_append_eq_left, BitVec.extractLsb'_append_eq_right⟩

theorem bytes32_word32 (a b c d : Byte) : bytes32 (word32 a b c d) = [a, b, c, d] := by
  simp only [bytes32, word32, List.cons.injEq, and_true]
  refine ⟨?_, ?_, ?_, BitVec.extractLsb'_append_eq_right⟩
  · exact (BitVec.extractLsb'_append_eq_of_le (by decide)).trans
      ((BitVec.extractLsb'_append_eq_of_le (by decide)).trans BitVec.extractLsb'_append_eq_left)
  · exact (BitVec.extractLsb'_append_eq_of_le (by decide)).trans
      ((BitVec.extractLsb'_append_eq_of_le (by decide)).trans BitVec.extractLsb'_append_eq_right)
  · exact (BitVec.extractLsb'_append_eq_of_le (by decide)).trans BitVec.extractLsb'_append_eq_right

theorem word16_bytes16 (w : Half) : word16 (w.extractLsb' 8 8) (w.extractLsb' 0 8) = w :=
  (BitVec.extractLsb'_append_extractLsb'_eq_extractLsb' rfl).trans BitVec.extractLsb'_eq_self

theorem word32_bytes32 (w : Word) :
    word32 (w.extractLsb' 24 8) (w.extractLsb' 16 8) (w.extractLsb' 8 8) (w.extractLsb' 0 8) = w := by
  have join := @BitVec.extractLsb'_append_extractLsb'_eq_extractLsb'
  unfold word32
  rw [join (by rfl), join (by rfl), join (by rfl)]
  exact BitVec.extractLsb'_eq_self

/-- The 16-bit fields of some bytes, written again, are those bytes. -/
theorem flatMap_bytes16_of_halves {bytes : List Byte} {loads : List Half} (read : halves bytes = some loads) :
    loads.flatMap bytes16 = bytes ∧ bytes.length = 2 * loads.length := by
  match bytes with
  | [] => cases read; exact ⟨rfl, rfl⟩
  | [_] => cases read
  | hi :: lo :: rest =>
    obtain ⟨loads', read', rfl⟩ := Option.map_eq_some_iff.1 read
    obtain ⟨same, length⟩ := flatMap_bytes16_of_halves read'
    refine ⟨?_, by simp only [List.length_cons, length]; omega⟩
    rw [List.flatMap_cons, bytes16_word16, same]
    rfl

/-! ### The decoder and the encoder (R182) -/

section
variable {code : Byte} {p : List Byte} {i : Instr}

theorem encodePayload_of_decodeFind (read : decodeFind p = .command i) : encodePayload i = some (0x17, p) := by
  unfold decodeFind at read
  repeat' split at read
  all_goals cases read
  · next kind _ _ => simp [encodePayload, kind]
  · next kind _ _ _ _ _ _ => simp [encodePayload, kind, bytes32_word32]
  · next kind _ _ _ => simp [encodePayload, kind]

theorem encodePayload_of_decodeReportLoad (read : decodeReportLoad p = .command i) : encodePayload i = some (0x35, p) := by
  unfold decodeReportLoad at read
  repeat' split at read
  all_goals cases read
  next loads => simp [encodePayload, bytes16_word16, (flatMap_bytes16_of_halves loads).1]

/-- A report that passes check 5 lists as many feeder loads as its count says, at most four (R112, R182). -/
theorem reportLoadWF_of_decodeReportLoad {site : Half} {count : Byte} {loads : List Half}
    (read : decodeReportLoad p = .command (.reportLoad site count loads)) : reportLoadWF count loads = true := by
  unfold decodeReportLoad at read
  repeat' split at read
  all_goals cases read
  next few length listed =>
    have twice := (flatMap_bytes16_of_halves listed).2
    simp only [reportLoadWF, Bool.and_eq_true, decide_eq_true_iff]
    omega

/-- A payload that passes checks 4 and 5 is the payload of its command, under its code. -/
theorem encodePayload_of_decodePayload (read : decodePayload code p = .command i) : encodePayload i = some (code, p) := by
  have byCode {n : Nat} (value : code.toNat = n) : code = BitVec.ofNat 8 n := by
    rw [← value, BitVec.ofNat_toNat, BitVec.setWidth_eq]
  unfold decodePayload at read
  split at read
  -- FIND, REPORT_LOAD, and a code outside the catalogue; every other code has one layout.
  case h_16 find => exact byCode find ▸ encodePayload_of_decodeFind read
  case h_25 report => exact byCode report ▸ encodePayload_of_decodeReportLoad read
  case h_33 => cases read
  all_goals
    next value =>
      rw [byCode value]
      split at read
      · cases read
        simp [encodePayload, bytes16_word16, bytes32_word32]
      · cases read

theorem decodePayload_report (p : List Byte) : decodePayload 0x35 p = decodeReportLoad p := rfl

/-- A command that the decoder gives is well-formed: only a report's count could make one ill-formed. -/
theorem wellFormed_of_decodePayload (read : decodePayload code p = .command i) : i.wellFormed = true := by
  have encoded := encodePayload_of_decodePayload read
  cases i with
  | reportLoad site count loads =>
    cases encoded
    exact reportLoadWF_of_decodeReportLoad (decodePayload_report _ ▸ read)
  | frameError bytes => cases encoded
  | _ => rfl

/-- A command of the port runs as its row does (R178). -/
theorem runCommand_of_encodePayload {cp : Byte × List Byte} (encoded : encodePayload i = some cp) (s : State) :
    runCommand i s = exec i s := by
  cases i with
  | frameError _ | shortTransfer | powerOnReset _ | pinReset _ | curtLineChange _ | allstop | clockAdvance | periodTimerExpiry
  | publish | cycleTimerExpiry | replyWindowClose _ | linkResetHoldEnd | lapse _ | reversalTimerExpiry _
  | loadStaleTransition => cases encoded
  | _ => rfl

end

/-! ### Receiving the bytes of a frame (R174) -/

/-- The frame after its first two bytes and some more, its declared length within 44. -/
def receivedFrame (code declared : Byte) (rest : List Byte) : RxFrame :=
  { count := 2 + rest.length, code := code, declared := declared, overLength := false, payload := rest.take declared.toNat
    crc := (rest[declared.toNat]?).getD 0 }

/-- A further byte belongs to the payload, is the CRC or is filler. -/
theorem receive_receivedFrame (code declared : Byte) (rest : List Byte) (b : Byte) :
    (receivedFrame code declared rest).receive b = receivedFrame code declared (rest ++ [b]) := by
  have third : 2 + rest.length ≠ 1 := by omega
  rcases Nat.lt_trichotomy rest.length declared.toNat with payload | crc | filler
  · simp [receivedFrame, RxFrame.receive, payload, List.take_of_length_le, payload.le, third, Nat.add_assoc]
  · simp [receivedFrame, RxFrame.receive, ← crc, third, Nat.add_assoc]
  · have long : ¬rest.length < declared.toNat := by omega
    simp [receivedFrame, RxFrame.receive, long, filler.ne', third, Nat.add_assoc, List.take_append_of_le_length filler.le,
      List.getElem?_append_left filler]

theorem foldl_receive_receivedFrame (code declared : Byte) (rest more : List Byte) :
    more.foldl RxFrame.receive (receivedFrame code declared rest) = receivedFrame code declared (rest ++ more) := by
  induction more generalizing rest with
  | nil => simp
  | cons b more ih => rw [List.foldl_cons, receive_receivedFrame, ih, List.append_assoc, List.singleton_append]

theorem receiveAll_of_le {code declared : Byte} (fits : declared.toNat ≤ 44) (rest : List Byte) :
    receiveAll (code :: declared :: rest) = receivedFrame code declared rest := by
  have start : (RxFrame.empty.receive code).receive declared = receivedFrame code declared [] := by
    simp [RxFrame.receive, RxFrame.empty, receivedFrame, Nat.not_lt.2 fits]
  rw [receiveAll, List.foldl_cons, List.foldl_cons, start, foldl_receive_receivedFrame, List.nil_append]

/-- After a declared length above 44 every byte is ignored. -/
theorem receiveAll_of_gt {code declared : Byte} (above : 44 < declared.toNat) (rest : List Byte) :
    receiveAll (code :: declared :: rest)
      = { count := 2, code := code, declared := declared, overLength := true, payload := [], crc := 0 } := by
  have start : (RxFrame.empty.receive code).receive declared
      = { count := 2, code := code, declared := declared, overLength := true, payload := [], crc := 0 } := by
    simp [RxFrame.receive, RxFrame.empty, above]
  rw [receiveAll, List.foldl_cons, List.foldl_cons, start]
  induction rest with
  | nil => rfl
  | cons b rest ih => exact ih

/-! ### Judging a frame (R176) -/

theorem judgeFrame_of_gt {code declared : Byte} (above : 44 < declared.toNat) (rest : List Byte) :
    judgeFrame (code :: declared :: rest) = some (.error .badLength) := by
  rw [judgeFrame, receiveAll_of_gt above]
  rfl

theorem judgeFrame_of_short {code declared : Byte} {rest : List Byte} (short : rest.length ≤ declared.toNat) :
    judgeFrame (code :: declared :: rest) = some (.error .badLength) := by
  by_cases above : 44 < declared.toNat
  · exact judgeFrame_of_gt above rest
  · rw [judgeFrame, receiveAll_of_le (Nat.le_of_not_lt above)]
    have unfinished : 2 + rest.length < 3 + declared.toNat := by omega
    simp [receivedFrame, RxFrame.judge, unfinished]

/-- A whole frame, judged by its CRC and then by its command; the filler is ignored. -/
theorem judgeFrame_of_whole {code declared : Byte} {payload : List Byte} (length : payload.length = declared.toNat)
    (fits : declared.toNat ≤ 44) (crc : Byte) (filler : List Byte) :
    judgeFrame (code :: declared :: (payload ++ crc :: filler))
      = some (if crc ≠ crc8 (code :: declared :: payload) then .error .crcError else decodePayload code payload) := by
  have whole : ¬2 + (payload ++ crc :: filler).length < 3 + declared.toNat := by simp; omega
  have frame : receivedFrame code declared (payload ++ crc :: filler)
      = { count := 2 + (payload ++ crc :: filler).length, code := code, declared := declared, overLength := false,
          payload := payload, crc := crc } := by
    simp [receivedFrame, ← length]
  rw [judgeFrame, receiveAll_of_le fits, frame]
  simp only [RxFrame.judge, whole, if_false, Nat.add_eq_zero_iff, OfNat.ofNat_ne_zero, false_and, Bool.false_eq_true]
  exact (apply_ite some _ _ _).symm

/-- The forms of a transfer's whole bytes. -/
inductive TransferForm : List Byte → Prop
  | none : TransferForm []
  | codeOnly (code : Byte) : TransferForm [code]
  | overLength (code declared : Byte) (rest : List Byte) (above : 44 < declared.toNat) : TransferForm (code :: declared :: rest)
  | short (code declared : Byte) (rest : List Byte) (fits : declared.toNat ≤ 44) (ends : rest.length ≤ declared.toNat) :
      TransferForm (code :: declared :: rest)
  | whole (code declared : Byte) (payload : List Byte) (crc : Byte) (filler : List Byte) (fits : declared.toNat ≤ 44)
      (length : payload.length = declared.toNat) : TransferForm (code :: declared :: (payload ++ crc :: filler))

theorem transferForm : (bytes : List Byte) → TransferForm bytes
  | [] => .none
  | [code] => .codeOnly code
  | code :: declared :: rest => by
    by_cases above : 44 < declared.toNat
    · exact .overLength code declared rest above
    by_cases ends : rest.length ≤ declared.toNat
    · exact .short code declared rest (Nat.le_of_not_lt above) ends
    have split : rest = rest.take declared.toNat ++ rest[declared.toNat] :: rest.drop (declared.toNat + 1) := by simp
    rw [split]
    exact .whole code declared _ _ _ (Nat.le_of_not_lt above) (List.length_take_of_le (by omega))

/-- The bytes that a received frame still holds are judged as those received were. -/
theorem judgeFrame_bytes (bytes : List Byte) : judgeFrame (receiveAll bytes).bytes = judgeFrame bytes := by
  cases transferForm bytes with
  | none => rfl
  | codeOnly code => rfl
  | overLength code declared rest above =>
    rw [receiveAll_of_gt above, judgeFrame_of_gt above]
    exact judgeFrame_of_gt above []
  | short code declared rest fits ends =>
    have kept : (receivedFrame code declared rest).bytes = code :: declared :: rest := by
      simp [receivedFrame, RxFrame.bytes, Nat.add_comm 2, List.take_of_length_le ends]
    rw [receiveAll_of_le fits, kept]
  | whole code declared payload crc filler fits length =>
    have kept : (receivedFrame code declared (payload ++ crc :: filler)).bytes = code :: declared :: (payload ++ [crc]) := by
      simp [receivedFrame, RxFrame.bytes, ← length, Nat.add_comm 2]
    rw [receiveAll_of_le fits, kept, judgeFrame_of_whole length fits, judgeFrame_of_whole length fits]

/-- Bytes judged to be a command are a whole frame with the right CRC, whose payload decodes to that command. -/
theorem judgeFrame_command {bytes : List Byte} {i : Instr} (judged : judgeFrame bytes = some (.command i)) :
    ∃ code payload filler, bytes = frameOf code payload ++ filler ∧ decodePayload code payload = .command i := by
  cases transferForm bytes with
  | none => cases judged
  | codeOnly code => cases judged
  | overLength code declared rest above => rw [judgeFrame_of_gt above] at judged; cases judged
  | short code declared rest fits ends => rw [judgeFrame_of_short ends] at judged; cases judged
  | whole code declared payload crc filler fits length =>
    rw [judgeFrame_of_whole length fits, Option.some.injEq] at judged
    split at judged
    · cases judged
    next same =>
      have same : crc = crc8 (code :: declared :: payload) := not_not.1 same
      exact ⟨code, payload, filler, by simp [frameOf, length, same], judged⟩

theorem exec_frameError (bytes : List Byte) (s : State) : exec (.frameError bytes) s = execFrameError bytes s := rfl

theorem exec_frameError_of_error {bytes : List Byte} {code : RespCode} (judged : judgeFrame bytes = some (.error code))
    (s : State) : exec (.frameError bytes) s = .next (refuse code s) := by
  rw [exec_frameError, execFrameError, judged]

/-- Taking the bytes of a command as a transfer executes it (R178). -/
theorem exec_frameError_of_command {bytes : List Byte} {i : Instr} (judged : judgeFrame bytes = some (.command i)) (s : State) :
    exec (.frameError bytes) s = exec i s := by
  obtain ⟨code, payload, filler, -, read⟩ := judgeFrame_command judged
  rw [exec_frameError, execFrameError, judged]
  exact runCommand_of_encodePayload (encodePayload_of_decodePayload read) s

/-! ### NOP (R180) -/

/-- A NOP frame carries no payload. -/
theorem decodePayload_nop {p : List Byte} (carries : p ≠ []) : decodePayload 0x00 p = .error .badLength := by
  cases p with
  | nil => exact absurd rfl carries
  | cons b rest => rfl

/-- Settles O6: each frame by its form, and the two rows that change at most the response. -/
theorem nopAndShortTransfer : Obligations.NopAndShortTransfer := by
  intro s
  refine ⟨rfl, fun p carries fits => exec_frameError_of_error ?_ s,
    fun n p above => exec_frameError_of_error (judgeFrame_of_gt above p) s,
    fun n crc p length fits wrong => exec_frameError_of_error ?_ s, s, rfl, rfl, fun _ => rfl⟩
  · have declared : p.length = (BitVec.ofNat 8 p.length).toNat := by rw [BitVec.toNat_ofNat]; omega
    refine (judgeFrame_of_whole declared (declared ▸ fits) (crc8 (0x00 :: BitVec.ofNat 8 p.length :: p)) []).trans ?_
    rw [decodePayload_nop carries, if_neg (not_not.2 rfl)]
  · rw [judgeFrame_of_whole length fits, if_pos wrong]

/-! ### The bits of a transfer (R171) -/

theorem byteOfMsb_bitsMsb (b : Byte) : byteOfMsb (bitsMsb b) = b := by
  revert b
  decide

/-- Bits assembled as some bytes are those bytes' bits with fewer than eight left over. -/
theorem bits_of_assembledAs {bits : List Bool} {bytes : List Byte} (assembled : AssembledAs bits bytes) :
    ∃ rest, bits = bytes.flatMap bitsMsb ++ rest ∧ rest.length < 8 := by
  obtain ⟨length, agree⟩ := assembled
  obtain ⟨-, agree'⟩ := assembledAs_bits bytes [] (by decide)
  rw [List.append_nil] at agree'
  have whole : bits.take (8 * bytes.length) = bytes.flatMap bitsMsb := by
    refine List.ext_getElem? fun n => ?_
    by_cases inBytes : n < 8 * bytes.length
    · have listed : bytes[n / 8]? = some bytes[n / 8] := List.getElem?_eq_getElem (by omega)
      have bit := (agree _ _ listed (n % 8) (by omega)).trans (agree' _ _ listed (n % 8) (by omega)).symm
      rwa [List.getElem?_take_of_lt inBytes, ← Nat.div_add_mod n 8]
    · rw [List.getElem?_eq_none (by rw [List.length_take]; omega),
        List.getElem?_eq_none (by rw [length_flatMap_bitsMsb]; omega)]
  refine ⟨bits.drop (8 * bytes.length), ?_, by rw [List.length_drop]; omega⟩
  rw [← whole, List.take_append_drop]

/-- A part outside any reset with a transfer under way, between two clocks. -/
def inTransfer (s : State) (rx : RxFrame) (inBits : List Bool) (driven : Nat) : State :=
  { s with rx := rx, pins := { supply := .over, resetN := .over, cs := .low, inBits := inBits, driven := driven, rose := false } }

/-- The state after a transfer, CS_N high again, with the row that the transfer is. -/
def transferEnded (s : State) (row : Instr) : State :=
  { s with
    pending := s.pending ++ [row], rx := .empty
    pins := { supply := .over, resetN := .over, cs := .high, inBits := [], driven := 0, rose := false } }

section
variable {s : State} {rx : RxFrame}

theorem pinEdges_append (first second : List PinEdge) (s : State) :
    pinEdges (first ++ second) s = pinEdges second (pinEdges first s) := List.foldl_append

theorem clocks_append (first second : List Bool) : clocks (first ++ second) = clocks first ++ clocks second :=
  List.flatMap_append

theorem pinEdge_csFall (running : s.pins.held = false) (high : s.pins.cs = .high) :
    pinEdge .csFall s = inTransfer s .empty [] 0 := by
  obtain ⟨supply, resetN⟩ := held_eq_false.1 running
  simp [pinEdge, beginTransfer, high, running, inTransfer, supply, resetN]

theorem pinEdge_csRise (inBits : List Bool) (driven : Nat) :
    pinEdge .csRise (inTransfer s rx inBits driven) = transferEnded s (transferRow rx) := rfl

theorem receiving_inTransfer (inBits : List Bool) (driven : Nat) : receiving (inTransfer s rx inBits driven) = true := rfl

/-- One clock of a transfer: a byte is received with its eighth bit. -/
theorem pinEdges_clock (bit : Bool) (inBits : List Bool) (driven : Nat) :
    pinEdges (clocks [bit]) (inTransfer s rx inBits driven)
      = if inBits.length + 1 < 8 then inTransfer s rx (inBits ++ [bit]) (driven + 1)
        else inTransfer s (rx.receive (byteOfMsb (inBits ++ [bit]))) [] (driven + 1) := by
  show driveMiso (sampleMosi bit (inTransfer s rx inBits driven)) = _
  rw [sampleMosi, if_pos (receiving_inTransfer inBits driven)]
  simp only [inTransfer, List.length_append, List.length_singleton]
  split <;> rfl

/-- Fewer bits than complete a byte are kept. -/
theorem pinEdges_clocks_of_lt {inBits bits : List Bool} (few : inBits.length + bits.length < 8) (driven : Nat) :
    pinEdges (clocks bits) (inTransfer s rx inBits driven) = inTransfer s rx (inBits ++ bits) (driven + bits.length) := by
  induction bits generalizing inBits driven with
  | nil => rw [List.append_nil]; rfl
  | cons bit bits ih =>
    rw [List.length_cons] at few
    rw [← List.singleton_append, clocks_append, pinEdges_append, pinEdges_clock, if_pos (by omega),
      ih (by rw [List.length_append, List.length_singleton]; omega), List.append_assoc, List.length_append, List.length_singleton,
      Nat.add_assoc]

/-- The eight clocks of a byte. -/
theorem pinEdges_clocks_byte (b : Byte) (driven : Nat) :
    pinEdges (clocks (bitsMsb b)) (inTransfer s rx [] driven) = inTransfer s (rx.receive b) [] (driven + 8) := by
  have eighth : bitsMsb b = (bitsMsb b).take 7 ++ [b.getLsbD 0] := rfl
  have seven : ((bitsMsb b).take 7).length = 7 := rfl
  rw [eighth, clocks_append, pinEdges_append, pinEdges_clocks_of_lt (by rw [seven]; decide), List.nil_append,
    pinEdges_clock, if_neg (by rw [seven]; decide), ← eighth, byteOfMsb_bitsMsb, seven]

theorem pinEdges_clocks_bytes (bytes : List Byte) (driven : Nat) :
    pinEdges (clocks (bytes.flatMap bitsMsb)) (inTransfer s rx [] driven)
      = inTransfer s (bytes.foldl RxFrame.receive rx) [] (driven + 8 * bytes.length) := by
  induction bytes generalizing rx driven with
  | nil => rfl
  | cons b bytes ih =>
    rw [List.flatMap_cons, clocks_append, pinEdges_append, pinEdges_clocks_byte, ih, List.foldl_cons, List.length_cons,
      Nat.mul_add, Nat.add_right_comm, Nat.add_assoc]

/-- A transfer at the pins adds the row of its whole bytes to the queue (log 5). -/
theorem pinEdges_transfer (running : s.pins.held = false) (high : s.pins.cs = .high) {bits : List Bool} {bytes : List Byte}
    (assembled : AssembledAs bits bytes) :
    pinEdges (.csFall :: clocks bits ++ [.csRise]) s = transferEnded s (transferRow (receiveAll bytes)) := by
  obtain ⟨rest, rfl, few⟩ := bits_of_assembledAs assembled
  have clocked : pinEdges (.csFall :: clocks (bytes.flatMap bitsMsb ++ rest)) s
      = inTransfer s (receiveAll bytes) rest (8 * bytes.length + rest.length) := by
    show pinEdges (clocks _) (pinEdge .csFall s) = _
    rw [pinEdge_csFall running high, clocks_append, pinEdges_append, pinEdges_clocks_bytes, pinEdges_clocks_of_lt (by simpa)]
    simp [receiveAll]
  rw [pinEdges_append, clocked]
  exact pinEdge_csRise rest _

end

/-! ### The row of a transfer (R176 to R178) -/

section
variable {bytes : List Byte}

theorem transferRow_of_none (judged : judgeFrame bytes = none) : transferRow (receiveAll bytes) = .shortTransfer := by
  rw [judgeFrame] at judged
  rw [transferRow, judged]

theorem transferRow_of_command {i : Instr} (judged : judgeFrame bytes = some (.command i)) :
    transferRow (receiveAll bytes) = i := by
  rw [judgeFrame] at judged
  rw [transferRow, judged]

theorem transferRow_of_error {code : RespCode} (judged : judgeFrame bytes = some (.error code)) :
    transferRow (receiveAll bytes) = .frameError (receiveAll bytes).bytes := by
  rw [judgeFrame] at judged
  rw [transferRow, judged]

/-- Only a transfer without a whole byte is not judged (R177). -/
theorem eq_nil_of_judgeFrame_none (judged : judgeFrame bytes = none) : bytes = [] := by
  cases transferForm bytes with
  | none => rfl
  | codeOnly code => cases judged
  | overLength code declared rest above => rw [judgeFrame_of_gt above] at judged; cases judged
  | short code declared rest fits ends => rw [judgeFrame_of_short ends] at judged; cases judged
  | whole code declared payload crc filler fits length => rw [judgeFrame_of_whole length fits] at judged; cases judged

/-- Bytes judged to be a command are its frame with filler, and the command is well-formed. -/
theorem encoded_of_command {i : Instr} (judged : judgeFrame bytes = some (.command i)) :
    i.wellFormed = true ∧ ∃ frame filler, encodeFrame i = some frame ∧ bytes = frame ++ filler := by
  obtain ⟨code, payload, filler, split, read⟩ := judgeFrame_command judged
  refine ⟨wellFormed_of_decodePayload read, frameOf code payload, filler, ?_, split⟩
  rw [encodeFrame, encodePayload_of_decodePayload read]
  rfl

theorem wellFormed_transferRow (bytes : List Byte) : (transferRow (receiveAll bytes)).wellFormed = true := by
  cases judged : judgeFrame bytes with
  | none => rw [transferRow_of_none judged]; rfl
  | some verdict =>
    cases verdict with
    | command i => rw [transferRow_of_command judged]; exact (encoded_of_command judged).1
    | error code =>
      rw [transferRow_of_error judged, Instr.wellFormed, frameErrorWF, judgeFrame_bytes, judged]

/-- The row of a transfer does what judging its bytes does. -/
theorem exec_transferRow (received : bytes ≠ []) (u : State) :
    exec (transferRow (receiveAll bytes)) u = exec (.frameError bytes) u := by
  cases judged : judgeFrame bytes with
  | none => exact absurd (eq_nil_of_judgeFrame_none judged) received
  | some verdict =>
    cases verdict with
    | command i => rw [transferRow_of_command judged, exec_frameError_of_command judged]
    | error code =>
      rw [transferRow_of_error judged, exec_frameError_of_error judged,
        exec_frameError_of_error ((judgeFrame_bytes bytes).trans judged)]

end

/-- Settles O4: a payload that decodes is the encoder's, and the clocks of a transfer receive its bytes one by one. -/
theorem acceptedFramesAreEncodings : Obligations.AcceptedFramesAreEncodings := by
  refine ⟨fun bytes i judged => ?_, fun bits bytes s running high assembled => ?_⟩
  · obtain ⟨wellFormed, frame⟩ := encoded_of_command judged
    exact ⟨wellFormed, frame, exec_frameError_of_command judged⟩
  · exact ⟨transferRow (receiveAll bytes), pinEdges_transfer running high assembled, wellFormed_transferRow bytes,
      fun empty => empty ▸ rfl, fun _ => transferRow_of_command, exec_transferRow⟩

end Sys2Proof.Port
end

section
/-! A TELE on the bay link (R117, R186, R188): its layout both ways, and the receiver bit by bit. -/

namespace Sys2Proof.BayLink

open Sys2Proof.Machine Sys2Proof.Safety Sys2Proof.Port

/-! ### The codes of a TELE (R188) -/

theorem code_of_connectorOf {b : Byte} {c : Connector} (named : connectorOf b = some c) : c.code = b.toNat := by
  unfold connectorOf at named
  repeat' split at named
  all_goals cases named
  · next zero => rw [zero]; rfl
  · next one => rw [one]; rfl

theorem code_of_hvacOf {b : Byte} {h : Hvac} (named : hvacOf b = some h) : h.code = b.toNat := by
  unfold hvacOf at named
  repeat' split at named
  all_goals cases named
  all_goals next value => rw [value]; rfl

theorem exists_connectorOf {b : Byte} (permitted : b.toNat ≤ 1) : ∃ c, connectorOf b = some c :=
  Option.ne_none_iff_exists'.1 fun unnamed => Nat.not_lt.2 permitted ((connectorOf_none b).1 unnamed)

theorem exists_hvacOf {b : Byte} (permitted : b.toNat ≤ 3) : ∃ h, hvacOf b = some h :=
  Option.ne_none_iff_exists'.1 fun unnamed => Nat.not_lt.2 permitted ((hvacOf_none b).1 unnamed)

/-! ### The characters of whole bytes -/

theorem wholeBytes_map_byte (bytes : List Byte) : wholeBytes (bytes.map .byte) = some bytes := by
  induction bytes with
  | nil => rfl
  | cons b bytes ih => rw [List.map_cons, wholeBytes, ih]; rfl

theorem eq_map_byte_of_wholeBytes {chars : List RxChar} {bytes : List Byte} (whole : wholeBytes chars = some bytes) :
    chars = bytes.map .byte := by
  induction chars generalizing bytes with
  | nil => cases whole; rfl
  | cons c rest ih =>
    cases c with
    | corrupt => cases whole
    | byte b =>
      obtain ⟨bytes', whole', rfl⟩ := Option.map_eq_some_iff.1 whole
      rw [List.map_cons, ← ih whole']

theorem judgeReply_map_byte (b : Fin 32) {bytes : List Byte} (length : bytes.length = 18) :
    judgeReply b (bytes.map .byte) = judgeTele b bytes := by
  simp [judgeReply, length, wholeBytes_map_byte]

/-- A valid reply is 18 whole characters. -/
theorem bytes_of_valid {b : Fin 32} {chars : List RxChar} {echo : Nat} {t : Telemetry}
    (valid : judgeReply b chars = .valid echo t) :
    ∃ bytes, chars = bytes.map .byte ∧ judgeTele b bytes = .valid echo t := by
  unfold judgeReply at valid
  repeat' split at valid
  any_goals cases valid
  next bytes whole => exact ⟨bytes, eq_map_byte_of_wholeBytes whole, valid⟩

/-! ### The layout, both ways (R126, R134, R188) -/

/-- The bytes of a TELE but for its CRC. -/
def teleBody (b : Fin 32) (echo connector : Byte) (tag : Word) (cabin outdoor : Half) (heat cool : Byte) (power : Half)
    (hvac : Byte) : List Byte :=
  [BitVec.ofNat 8 b.val, 0x02, echo, connector] ++ bytes32 tag ++ bytes16 cabin ++ bytes16 outdoor ++ [heat, cool]
    ++ bytes16 power ++ [hvac]

theorem teleChars_eq (b : Fin 32) (echo connector : Byte) (tag : Word) (cabin outdoor : Half) (heat cool : Byte) (power : Half)
    (hvac : Byte) :
    teleChars b echo connector tag cabin outdoor heat cool power hvac
      = (teleBody b echo connector tag cabin outdoor heat cool power hvac
          ++ [crc8 (teleBody b echo connector tag cabin outdoor heat cool power hvac)]).map .byte := rfl

theorem toNat_ofNat_bay (b : Fin 32) : (BitVec.ofNat 8 b.val).toNat = b.val := by
  rw [BitVec.toNat_ofNat]
  omega

/-- 18 characters that carry permitted codes are a valid reply, their fields clamped (R134). -/
theorem judgeReply_teleChars (b : Fin 32) {echo connector hvac : Byte} {con : Connector} {h : Hvac} (inRange : echo.toNat ≤ 15)
    (connected : connectorOf connector = some con) (state : hvacOf hvac = some h) (tag : Word) (cabin outdoor : Half)
    (heat cool : Byte) (power : Half) :
    judgeReply b (teleChars b echo connector tag cabin outdoor heat cool power hvac)
      = .valid echo.toNat
          { connector := con, tag := tag, cabin := clampInt (-400) 600 cabin.toInt, outdoor := clampInt (-400) 600 outdoor.toInt
            heatCap := heat.toNat, coolCap := cool.toNat, power := min power.toNat 15000, hvac := h } := by
  rw [teleChars_eq, judgeReply_map_byte b rfl]
  have bay : b.val < 256 := b.isLt.trans (by decide)
  simp [teleBody, bytes16, bytes32, judgeTele, bay, Nat.not_lt.2 inRange, connected, state, temperature,
    word16_bytes16, word32_bytes32]

/-- Bytes judged to be a valid reply are a TELE of the polled bay. -/
theorem tele_of_judgeTele {b : Fin 32} {bytes : List Byte} {echo : Nat} {t : Telemetry}
    (valid : judgeTele b bytes = .valid echo t) :
    ∃ e connector tag cabin outdoor heat cool power hvac, e.toNat = echo ∧ echo ≤ 15
      ∧ connector.toNat = t.connector.code ∧ hvac.toNat = t.hvac.code
      ∧ bytes.map .byte = teleChars b e connector tag cabin outdoor heat cool power hvac := by
  unfold judgeTele at valid
  repeat' split at valid
  all_goals cases valid
  next address kind echo connector t3 t2 t1 t0 c1 c0 o1 o0 heat cool p1 p0 hvac crc same addressed tele inRange _ _ _ _ connected
      state =>
    refine ⟨echo, connector, word32 t3 t2 t1 t0, word16 c1 c0, word16 o1 o0, heat, cool, word16 p1 p0, hvac, rfl,
      Nat.le_of_not_lt inRange, (code_of_connectorOf connected).symm, (code_of_hvacOf state).symm, ?_⟩
    have bay : BitVec.ofNat 8 b.val = address := BitVec.eq_of_toNat_eq ((toNat_ofNat_bay b).trans (not_not.1 addressed).symm)
    simp only [teleChars_eq, teleBody, bytes16_word16, bytes32_word32, bay, not_not.1 same, not_not.1 tele]
    rfl

/-! ### The receiver bit by bit (R117, R186) -/

theorem byteOfLsb_bitsLsb (b : Byte) : byteOfLsb (bitsLsb b) = b := byteOfMsb_bitsMsb b

/-- A character of the line, by its stop bit. -/
def charOf (b : Byte) (stop : Bool) : RxChar := if stop then .byte b else .corrupt

/-- Marking bits between characters leave the receiver waiting. -/
theorem foldl_take_gap (chars : List RxChar) (gap : Nat) :
    (List.replicate gap true).foldl Receiver.take { bits := none, chars := chars } = { bits := none, chars := chars } := by
  induction gap with
  | zero => rfl
  | succ gap ih => exact ih

theorem take_of_lt {chars : List RxChar} {bits : List Bool} (inByte : bits.length < 8) (level : Bool) :
    Receiver.take { bits := some bits, chars := chars } level = { bits := some (bits ++ [level]), chars := chars } :=
  if_pos inByte

/-- Data bits are collected up to the eighth. -/
theorem foldl_take_data (chars : List RxChar) {bits more : List Bool} (inByte : bits.length + more.length ≤ 8) :
    more.foldl Receiver.take { bits := some bits, chars := chars } = { bits := some (bits ++ more), chars := chars } := by
  induction more generalizing bits with
  | nil => rw [List.append_nil]; rfl
  | cons level more ih =>
    rw [List.length_cons] at inByte
    rw [List.foldl_cons, take_of_lt (by omega), ih (by rw [List.length_append, List.length_singleton]; omega), List.append_assoc,
      List.singleton_append]

theorem charAfterGap_eq (gap : Nat) (b : Byte) (stop : Bool) :
    charAfterGap gap b stop = List.replicate gap true ++ false :: (bitsLsb b ++ [stop]) := rfl

/-- One character is taken, whole or corrupt by its stop bit. -/
theorem foldl_take_charAfterGap (chars : List RxChar) (gap : Nat) (b : Byte) (stop : Bool) :
    (charAfterGap gap b stop).foldl Receiver.take { bits := none, chars := chars }
      = { bits := none, chars := chars ++ [charOf b stop] } := by
  have start : Receiver.take { bits := none, chars := chars } false = { bits := some [], chars := chars } := rfl
  have stopped : Receiver.take { bits := some (bitsLsb b), chars := chars } stop
      = { bits := none, chars := chars ++ [if stop then .byte (byteOfLsb (bitsLsb b)) else .corrupt] } := rfl
  rw [charAfterGap_eq, List.foldl_append, foldl_take_gap, List.foldl_cons, start, List.foldl_append,
    foldl_take_data chars (bits := []) (more := bitsLsb b) (Nat.le_refl 8), List.nil_append, List.foldl_cons,
    List.foldl_nil, stopped, byteOfLsb_bitsLsb]
  rfl

theorem foldl_take_line (chars : List RxChar) (line : List (Nat × Byte × Bool)) :
    (line.flatMap fun c => charAfterGap c.1 c.2.1 c.2.2).foldl Receiver.take { bits := none, chars := chars }
      = { bits := none, chars := chars ++ line.map fun c => charOf c.2.1 c.2.2 } := by
  induction line generalizing chars with
  | nil => rw [List.map_nil, List.append_nil]; rfl
  | cons c line ih =>
    rw [List.flatMap_cons, List.foldl_append, foldl_take_charAfterGap, ih, List.map_cons, List.append_assoc,
      List.singleton_append]

/-- Bits that the character in progress still needs, or that one beginning with the next bit needs. -/
def bitsMissing (r : Receiver) : Nat :=
  match r.bits with
  | none => 10
  | some bits => 9 - bits.length

/-- A bit that does not complete a character adds none. -/
theorem take_of_missing {r : Receiver} (more : 1 < bitsMissing r) (level : Bool) :
    (r.take level).chars = r.chars ∧ bitsMissing r ≤ bitsMissing (r.take level) + 1 := by
  obtain ⟨bits, chars⟩ := r
  cases bits with
  | none =>
    cases level with
    | false => exact ⟨rfl, Nat.le_refl 10⟩
    | true => exact ⟨rfl, Nat.le_succ 10⟩
  | some bits =>
    have inByte : bits.length < 8 := by simp only [bitsMissing] at more; omega
    rw [take_of_lt inByte]
    refine ⟨rfl, ?_⟩
    simp only [bitsMissing, List.length_append, List.length_singleton]
    omega

/-- Fewer bits than a character needs add no character (log 23). -/
theorem chars_foldl_take_of_lt {r : Receiver} {rest : List Bool} (few : rest.length < bitsMissing r) :
    (rest.foldl Receiver.take r).chars = r.chars := by
  induction rest generalizing r with
  | nil => rfl
  | cons level rest ih =>
    rw [List.length_cons] at few
    obtain ⟨same, missing⟩ := take_of_missing (r := r) (by omega) level
    rw [List.foldl_cons, ih (by omega), same]

/-- Settles O45: the layout by `judgeReply_teleChars` and `tele_of_judgeTele`, the line character by character. -/
theorem teleRoundTrip : Obligations.TeleRoundTrip := by
  refine ⟨fun b echo connector tag cabin outdoor heat cool power hvac inRange plug hvacRange => ?_,
    fun b chars echo t valid => ?_, fun line rest few => ?_⟩
  · obtain ⟨con, connected⟩ := exists_connectorOf plug
    obtain ⟨h, state⟩ := exists_hvacOf hvacRange
    exact ⟨_, judgeReply_teleChars b inRange connected state tag cabin outdoor heat cool power, code_of_connectorOf connected,
      rfl, rfl, rfl, rfl, rfl, rfl, code_of_hvacOf state⟩
  · obtain ⟨bytes, rfl, tele⟩ := bytes_of_valid valid
    exact tele_of_judgeTele tele
  · rw [receiveLine, List.foldl_append, foldl_take_line, List.nil_append, chars_foldl_take_of_lt few]
    rfl

end Sys2Proof.BayLink
end

section
/-! The depot clock and attention (R193, R198 to R201): the two reads, the event flags, the mask and ATTN_N. -/

namespace Sys2Proof.Attention

open Sys2Proof.Machine Sys2Proof.Safety Sys2Proof.OrderTable Sys2Proof.Protection

/-! ### STATUS and READ_CLOCK (R193, R198) -/

theorem exec_status (s : State) : exec .status s = .next (answer .ok (statusBytes s) s) := rfl

theorem exec_readClock (s : State) : exec .readClock s = .next (answer .ok (be32 s.clock) s) := rfl

/-- Flags, in-force state and ceiling mark, one byte each, then the clock. -/
theorem read_statusBytes (s : State) :
    readFields [1, 1, 1, 4] (statusBytes s)
      = some (atWidths [1, 1, 1, 4]
          [s.flags.toNat, (s.lineState || s.softCurtail).toNat, (decide (s.ceiling ≠ 0)).toNat, s.clock]) := by
  have force : inForce s = (s.lineState || s.softCurtail) := rfl
  have marks : readFields [1, 1, 1] [s.flags, boolByte (inForce s), boolByte (decide (s.ceiling ≠ 0))]
      = some (atWidths [1, 1, 1] [s.flags.toNat, (s.lineState || s.softCurtail).toNat, (decide (s.ceiling ≠ 0)).toNat]) := by
    simp only [readFields_byte, readFields_nil, toNat_boolByte, atWidths_cons, atWidths_nil, toNat_mod_byte, bool_toNat_mod, force,
      Nat.pow_one, Option.map_some]
  have clock : readFields [4] (be32 s.clock) = some (atWidths [4] [s.clock]) := readFields_be32_last s.clock
  exact readFields_groups (by rfl) marks clock

/-- Settles O9: the fields of each answer read back, on the state as it was. -/
theorem statusAndClockReads : Obligations.StatusAndClockReads := fun s =>
  ⟨⟨rfl, statusBytes s, read_statusBytes s, exec_status s⟩, rfl, be32 s.clock, readFields_be32_last s.clock, exec_readClock s⟩

/-! ### Event flags, mask and ATTN_N (R199 to R201) -/

theorem exec_clearStatus (named : Byte) (s : State) :
    exec (.clearStatus named) s = .next (answer .ok [s.flags &&& ~~~named] { s with flags := s.flags &&& ~~~named }) := rfl

theorem exec_setAttnMask (mask : Byte) (s : State) :
    exec (.setAttnMask mask) s = .next (answer .ok [mask] { s with mask := mask }) := rfl

/-- CLEAR_STATUS bit by bit. -/
theorem getLsbD_and_not (flags named : Byte) {k : Nat} (inByte : k < 8) :
    (flags &&& ~~~named).getLsbD k = (flags.getLsbD k && !named.getLsbD k) := by
  rw [BitVec.getLsbD_and, BitVec.getLsbD_not, decide_eq_true inByte, Bool.true_and]

/-- A byte is not 0 when one of its bits is set. -/
theorem ne_zero_iff_exists_getLsbD (b : Byte) : b ≠ 0 ↔ ∃ k, k < 8 ∧ b.getLsbD k = true := by
  refine ⟨fun set => Classical.byContradiction fun clear => set (BitVec.eq_of_getLsbD_eq fun k inByte => ?_), ?_⟩
  · rw [Bool.eq_false_iff.2 fun bit => clear ⟨k, inByte, bit⟩]
    exact BitVec.getLsbD_zero.symm
  · rintro ⟨k, -, bit⟩ rfl
    exact Bool.false_ne_true (BitVec.getLsbD_zero.symm.trans bit)

/-- ATTN_N is asserted by a flag that is set and not masked (R200). -/
theorem attnAsserted_iff (s : State) :
    attnAsserted s = true ↔ ∃ k, k < 8 ∧ s.flags.getLsbD k = true ∧ s.mask.getLsbD k = true := by
  rw [attnAsserted, bne_iff_ne, ne_zero_iff_exists_getLsbD]
  simp only [BitVec.getLsbD_and, Bool.and_eq_true]

/-- At the pin it is released while the part is held in reset (R201). -/
theorem attnLine_iff (s : State) :
    attnLine s = true ↔ s.pins.held = false ∧ ∃ k, k < 8 ∧ s.flags.getLsbD k = true ∧ s.mask.getLsbD k = true := by
  rw [attnLine, Bool.and_eq_true, Bool.not_eq_true', attnAsserted_iff]

theorem mask_of_coldValues {s t : State} (values : ColdValues s t) : t.mask = 0xFF := by
  obtain ⟨-, -, -, -, -, -, -, -, -, mask, -⟩ := values
  exact mask

theorem mask_softReset (s : State) : (softReset s).mask = s.mask := by
  obtain ⟨-, -, -, -, -, -, -, mask, -⟩ := softReset_values s
  exact mask

/-- Settles O10: the flags bit by bit, the line from flags and mask, and the mask that each reset leaves. -/
theorem flagsMaskAndAttentionLine : Obligations.FlagsMaskAndAttentionLine := fun named mask curt s =>
  ⟨⟨_, fun _ => getLsbD_and_not s.flags named, exec_clearStatus named s⟩, exec_setAttnMask mask s, attnAsserted_iff s,
    attnLine_iff s, ⟨_, rfl, mask_of_coldValues (powerOnReset_values curt s).1⟩,
    ⟨_, rfl, mask_of_coldValues (pinReset_values curt s).1⟩, _, rfl, mask_softReset s⟩

end Sys2Proof.Attention
end

section
/-! The idle step (R191, log 2): 640 crystal cycles, and the rows of the events that come due in them, in an order that is a free
value (log 3). -/

namespace Sys2Proof.IdleStep

open Sys2Proof.Machine Sys2Proof.Safety Sys2Proof.Port Sys2Proof.Commitment Sys2Proof.ModeReversal Sys2Proof.Protection

/-! ### The time that passes -/

theorem elapse_eq (s : State) : elapse s = elapsed s := rfl

theorem bayAt_elapsed (s : State) (b : Fin 32) : bayAt (elapsed s) b = (bayAt s b).elapse := bayAt_elapse s b

/-- The CURT filter of a part held in reset, in the words of the statement. -/
theorem filterTime_eq (s : State) :
    filterTime s =
      (let f := (elapsed s).curt
       { s with curt := if f.line ≠ f.level ∧ 16000 ≤ f.since then seen f f.line else f }) := by
  have counted : (elapsed s).curt = s.curt.count := rfl
  rw [counted]
  rcases filterTime_cases s with ⟨waits, same⟩ | ⟨due, settled⟩
  · have waits' : ¬(s.curt.count.line ≠ s.curt.count.level ∧ 16000 ≤ s.curt.count.since) := fun stood =>
      Bool.false_ne_true (waits.symm.trans ((due_iff _).2 stood))
    simp only [same, if_neg waits']
  · simp only [settled, if_pos ((due_iff _).1 due), settle_eq]

/-! ### Events and their rows -/

/-- The row of the table that an event of time is, the CURT line at the level given. -/
def row (line : Bool) : TimedEvent → Instr
  | .clock => .clockAdvance
  | .period => .periodTimerExpiry
  | .cycle => .cycleTimerExpiry
  | .hold => .linkResetHoldEnd
  | .window => .replyWindowClose []
  | .publish => .publish
  | .loadStale => .loadStaleTransition
  | .allstop => .allstop
  | .curt => .curtLineChange line
  | .lapse b => .lapse b
  | .reversal b => .reversalTimerExpiry b

/-- The event of time of a row; none of the other rows is one. -/
def eventOf : Instr → Option TimedEvent
  | .clockAdvance => some .clock
  | .periodTimerExpiry => some .period
  | .cycleTimerExpiry => some .cycle
  | .linkResetHoldEnd => some .hold
  | .replyWindowClose _ => some .window
  | .publish => some .publish
  | .loadStaleTransition => some .loadStale
  | .allstop => some .allstop
  | .curtLineChange _ => some .curt
  | .lapse b => some (.lapse b)
  | .reversalTimerExpiry b => some (.reversal b)
  | _ => none

section
variable {line : Bool} {e : TimedEvent} {s u : State}

theorem eventOf_row (line : Bool) (e : TimedEvent) : eventOf (row line e) = some e := by
  cases e with
  | _ => rfl

theorem row_injective (line : Bool) : Function.Injective (row line) := fun d e same =>
  Option.some.inj ((eventOf_row line d).symm.trans ((congrArg eventOf same).trans (eventOf_row line e)))

/-- A row executes as its event. -/
theorem exec_row (level : u.curt.line = line) (e : TimedEvent) : exec (row line e) u = .next (takeEvent u e) := by
  subst level
  cases e with
  | _ => rfl

/-! What each occasion asks of the state -/

theorem windowDue_iff (u : State) : windowDue u = true ↔ ∃ x, u.exchange = some x ∧ 67840 ≤ x.age := by
  unfold windowDue
  cases u.exchange with
  | none => simp
  | some x => exact decide_eq_true_iff.trans (by simp [exchangeTime])

theorem loadDue_iff (u : State) :
    loadDue u = true ↔ u.load.state = .fresh ∧ ∃ a, u.load.age = some a ∧ u.tuning.stale * 16000000 ≤ a := by
  unfold loadDue
  cases u.load.state with
  | stale => simp
  | fresh => cases u.load.age <;> simp

theorem allstopDue_iff (u : State) :
    allstopDue u = true ↔
      (∃ n, u.sending = some n ∧ 4480 ≤ n) ∨ (u.sending = none ∧ u.allstop ≠ none ∧ u.hold = none ∧ u.exchange = none) := by
  unfold allstopDue
  cases sends : u.sending with
  | none => simp [sends, Option.isSome_iff_ne_none]
  | some n => exact decide_eq_true_iff.trans (by simp [allstopTime])

theorem reversalDue_iff (x : Bay) : reversalDue x = true ↔ ∃ r, x.reversal = some r ∧ r.left = 0 := by
  unfold reversalDue
  cases x.reversal <;> simp

theorem stillDue_publish (u : State) : stillDue u .publish = true ↔ ∃ p, u.pass = some p ∧ 0 < p.age := by
  unfold stillDue
  cases u.pass <;> simp

/-- An event is still due while its row has its subject. -/
theorem dueStill_row (line : Bool) (u : State) (e : TimedEvent) : DueStill u (row line e) ↔ stillDue u e = true := by
  cases e with
  | clock | period | cycle => exact iff_of_true trivial rfl
  | hold | lapse b => exact beq_iff_eq.symm
  | window => exact (windowDue_iff u).symm
  | publish => exact (stillDue_publish u).symm
  | loadStale => exact (loadDue_iff u).symm
  | allstop => exact (allstopDue_iff u).symm
  | curt => exact (due_iff u.curt).symm
  | reversal b => exact (reversalDue_iff (bayAt u b)).symm

/-! ### One event after the other -/

/-- No event moves the CURT line. -/
theorem line_takeDue (u : State) (e : TimedEvent) : (takeDue u e).curt.line = u.curt.line := by
  unfold takeDue
  split
  · have moved : (takeEvent u e).curt = (if e = .curt then filtered u u.curt.line else u).curt :=
      show (lines _).curt = (lines _).curt from congrArg State.curt (lines_takeEvent u e)
    rw [moved]
    split
    · have settled : (filtered u u.curt.line).curt = u.curt.settle u.curt.line := by
        unfold filtered
        split
        · rfl
        · rfl
      rw [settled, CurtFilter.settle]
      split
      · rfl
      · rfl
    · rfl
  · rfl

/-- The events of a list, each taken if it is still due, are their rows taken in turn. -/
theorem takenInTurn_rows (l : List TimedEvent) (level : u.curt.line = line) :
    TakenInTurn (l.map (row line)) u (l.foldl takeDue u) := by
  induction l generalizing u with
  | nil => exact rfl
  | cons e rest ih =>
    refine ⟨takeDue u e, fun due => ?_, fun gone => ?_, ih ((line_takeDue u e).trans level)⟩
    · rw [takeDue, if_pos ((dueStill_row line u e).1 due)]
      exact exec_row level e
    · rw [takeDue, if_neg fun due => gone ((dueStill_row line u e).2 due)]

/-! ### The events that come due -/

/-- Every event of time, in the order in which `dueEvents` lists them. -/
def occasions : List TimedEvent :=
  [TimedEvent.clock] ++ [TimedEvent.period] ++ [TimedEvent.cycle] ++ [TimedEvent.hold] ++ [TimedEvent.window]
    ++ [TimedEvent.publish] ++ [TimedEvent.loadStale] ++ [TimedEvent.allstop] ++ [TimedEvent.curt]
    ++ allBays.map TimedEvent.lapse ++ allBays.map TimedEvent.reversal

/-- Whether `dueEvents` lists an event. -/
def dueIn (before later : State) : TimedEvent → Bool
  | .clock => decide (Config.second ≤ later.phase)
  | .period => decide (before.periodTimer ≠ 0 ∧ later.periodTimer = 0)
  | .cycle => decide (later.cycleTimer = 0)
  | .publish => passDue later
  | e => stillDue later e

theorem mem_occasions (e : TimedEvent) : e ∈ occasions := by
  cases e with
  | _ => simp [occasions, allBays]

theorem nodup_occasions : occasions.Nodup := by decide

theorem dueEvents_eq (before later : State) : dueEvents before later = occasions.filter (dueIn before later) := by
  have lapses : dueIn before later ∘ .lapse = fun b => (bayAt later b).lapse == some 0 := rfl
  have reversals : dueIn before later ∘ .reversal = fun b => reversalDue (bayAt later b) := rfl
  simp only [dueEvents, occasions, List.filter_append, List.filter_map, List.filter_singleton, Bool.cond_eq_ite, lapses, reversals,
    dueIn, stillDue, decide_eq_true_eq, beq_iff_eq]

theorem mem_dueEvents {before later : State} : e ∈ dueEvents before later ↔ dueIn before later e = true := by
  rw [dueEvents_eq, List.mem_filter]
  exact and_iff_right (mem_occasions e)

theorem nodup_dueEvents (before later : State) : (dueEvents before later).Nodup :=
  dueEvents_eq before later ▸ nodup_occasions.filter _

/-- Of the events of a running pass only the publish has a free moment (log 12); every other is listed when its row comes due. -/
theorem dueIn_iff_comesDue (other : e ≠ .publish) : dueIn s (elapsed s) e = true ↔ ComesDue s (row s.curt.line e) := by
  cases e with
  | publish => exact absurd rfl other
  | clock => simp only [dueIn, elapsed, row, ComesDue, decide_eq_true_eq]
  | period => simp [dueIn, elapsed, row, ComesDue, Nat.pos_iff_ne_zero, Nat.sub_eq_zero_iff_le]
  | cycle => simp [dueIn, elapsed, row, ComesDue, Nat.sub_eq_zero_iff_le]
  | hold => simp [dueIn, stillDue, elapsed, row, ComesDue, Nat.sub_eq_zero_iff_le]
  | window => exact (windowDue_iff _).trans (by simp [elapsed, row, ComesDue])
  | loadStale => exact (loadDue_iff _).trans (by simp [elapsed, row, ComesDue])
  | allstop => exact (allstopDue_iff _).trans (by simp [elapsed, row, ComesDue])
  | curt =>
    have counted : (elapsed s).curt = s.curt.count := rfl
    refine (due_iff _).trans ?_
    rw [counted]
    rcases count_cases s.curt with ⟨stands, same⟩ | ⟨differs, more⟩
    · simp [same, stands, row, ComesDue]
    · simp [more, row, ComesDue]
  | lapse b =>
    have later : (bayAt (elapsed s) b).lapse = s.bays[b].lapse.map fun n => n - 640 := congrArg Bay.lapse (bayAt_elapsed s b)
    simp [dueIn, stillDue, later, row, ComesDue, Nat.sub_eq_zero_iff_le]
  | reversal b =>
    have later : (bayAt (elapsed s) b).reversal = s.bays[b].reversal.map fun r => { r with left := r.left - 640 } :=
      congrArg Bay.reversal (bayAt_elapsed s b)
    have listed : dueIn s (elapsed s) (.reversal b) = reversalDue (bayAt (elapsed s) b) := rfl
    rw [listed, reversalDue_iff, later]
    simp [row, ComesDue, Nat.sub_eq_zero_iff_le]

/-- Only rows of events of time come due. -/
theorem exists_row_of_comesDue {d : Instr} (due : ComesDue s d) : ∃ e, row s.curt.line e = d := by
  cases d with
  | clockAdvance => exact ⟨.clock, rfl⟩
  | periodTimerExpiry => exact ⟨.period, rfl⟩
  | cycleTimerExpiry => exact ⟨.cycle, rfl⟩
  | linkResetHoldEnd => exact ⟨.hold, rfl⟩
  | replyWindowClose chars => exact ⟨.window, congrArg _ due.1.symm⟩
  | publish => exact ⟨.publish, rfl⟩
  | loadStaleTransition => exact ⟨.loadStale, rfl⟩
  | allstop => exact ⟨.allstop, rfl⟩
  | curtLineChange level => exact ⟨.curt, congrArg _ due.1.symm⟩
  | lapse b => exact ⟨.lapse b, rfl⟩
  | reversalTimerExpiry b => exact ⟨.reversal b, rfl⟩
  | _ => exact absurd due id

/-- A pass at its bound publishes. -/
theorem dueIn_publish_of_comesDue (due : ComesDue s .publish) : dueIn s (elapsed s) .publish = true := by
  obtain ⟨p, flying, bound⟩ := due
  have later : (elapsed s).pass = some { p with age := p.age + 640 } := congrArg (Option.map _) flying
  have passed : passBound ≤ p.age + 640 := bound
  simp [dueIn, passDue, later, passed]

/-- Only a pass in flight publishes. -/
theorem pass_of_dueIn_publish (due : dueIn s (elapsed s) .publish = true) : s.pass ≠ none := by
  intro idle
  have later : (elapsed s).pass = none := congrArg (Option.map _) idle
  simp [dueIn, passDue, later] at due

/-- A listed event is still due when nothing was taken before it. -/
theorem stillDue_of_dueIn {before later : State} (other : e ≠ .publish) (listed : dueIn before later e = true) (n : Nat) :
    stillDue (indexed later n) e = true := by
  cases e with
  | publish => exact absurd rfl other
  | clock | period | cycle => rfl
  | _ => exact listed

/-- What comes due in the time that passes is still due at its end. -/
theorem dueStill_of_comesDue {d : Instr} (due : ComesDue s d) (n : Nat) : DueStill (indexed (elapsed s) n) d := by
  obtain ⟨e, rfl⟩ := exists_row_of_comesDue due
  refine (dueStill_row _ _ _).2 ?_
  by_cases publishes : e = .publish
  · subst publishes
    obtain ⟨p, flying, -⟩ := due
    exact (stillDue_publish _).2 ⟨_, congrArg (Option.map _) flying, Nat.succ_pos _⟩
  · exact stillDue_of_dueIn publishes ((dueIn_iff_comesDue publishes).2 due) n

/-! ### The step -/

theorem perm_insertAt {α : Type} (n : Nat) (x : α) (l : List α) : (insertAt n x l).Perm (x :: l) := by
  induction l generalizing n with
  | nil => exact .refl _
  | cons y rest ih =>
    cases n with
    | zero => exact .refl _
    | succ n => exact ((ih n).cons y).trans (.swap x y rest)

theorem perm_arrange (k : Nat) (l : List TimedEvent) : (arrange k l).Perm l := by
  induction l generalizing k with
  | nil => exact .refl _
  | cons e rest ih => exact (perm_insertAt _ e _).trans ((ih _).cons e)

theorem step_idle (idle : s.pending = []) : step s = .next (tick s) := by
  unfold step
  rw [idle]

/-- The events of an idle step of a part that is not held in reset, in the order in which they are taken. -/
@[irreducible] def takenEvents (s : State) : List TimedEvent := arrange s.freeIndex (dueEvents s (elapsed s))

theorem perm_takenEvents (s : State) : (takenEvents s).Perm (dueEvents s (elapsed s)) := by
  unfold takenEvents
  exact perm_arrange _ _

theorem passTime_eq_foldl (s : State) :
    passTime s = (takenEvents s).foldl takeDue (indexed (elapsed s) (s.freeIndex + (takenEvents s).length + 1)) := by
  rw [(perm_takenEvents s).length_eq]
  unfold takenEvents
  exact passTime_eq s

/-- The rows of `takenEvents`. -/
def takenOrder (s : State) : List Instr := (takenEvents s).map (row s.curt.line)

theorem nodup_takenOrder (s : State) : (takenOrder s).Nodup :=
  ((perm_takenEvents s).nodup_iff.2 (nodup_dueEvents s (elapsed s))).map (row_injective _)

theorem mem_takenOrder : row s.curt.line e ∈ takenOrder s ↔ dueIn s (elapsed s) e = true :=
  (List.mem_map_of_injective (row_injective _)).trans ((perm_takenEvents s).mem_iff.trans mem_dueEvents)

theorem publish_mem_takenOrder (due : ComesDue s .publish) : Instr.publish ∈ takenOrder s :=
  (mem_takenOrder (e := .publish)).2 (dueIn_publish_of_comesDue due)

theorem pass_of_publish_mem (mem : Instr.publish ∈ takenOrder s) : s.pass ≠ none :=
  pass_of_dueIn_publish ((mem_takenOrder (e := .publish)).1 mem)

/-- But for the publish, the rows taken are those that come due. -/
theorem mem_takenOrder_iff_comesDue {d : Instr} (other : d ≠ .publish) : d ∈ takenOrder s ↔ ComesDue s d := by
  have apart {e : TimedEvent} (named : row s.curt.line e = d) : e ≠ .publish := by
    rintro rfl
    exact other named.symm
  constructor
  · intro mem
    obtain ⟨e, -, rfl⟩ := List.mem_map.1 mem
    exact (dueIn_iff_comesDue (apart rfl)).1 (mem_takenOrder.1 mem)
  · intro due
    obtain ⟨e, rfl⟩ := exists_row_of_comesDue due
    exact mem_takenOrder.2 ((dueIn_iff_comesDue (apart rfl)).2 due)

/-- What the idle step leaves, its events taken in turn. -/
theorem takenInTurn_passTime (s : State) :
    TakenInTurn (takenOrder s) (indexed (elapsed s) (s.freeIndex + (takenOrder s).length + 1)) (passTime s) := by
  have line : (indexed (elapsed s) (s.freeIndex + (takenOrder s).length + 1)).curt.line = s.curt.line := by
    show s.curt.count.line = s.curt.line
    rcases count_cases s.curt with ⟨-, same⟩ | ⟨-, more⟩
    · rw [same]
    · rw [more]
  have length : (takenOrder s).length = (takenEvents s).length := List.length_map _
  rw [passTime_eq_foldl, ← length]
  exact takenInTurn_rows (takenEvents s) line

theorem step_running (idle : s.pending = []) (running : s.pins.held = false) : step s = .next (passTime s) := by
  rw [step_idle idle, tick_running running]

/-- In a quiet state nothing comes due. -/
theorem not_comesDue_of_quiet (quiet : Quiet s) (d : Instr) : ¬ComesDue s d := by
  obtain ⟨-, clock, period, cycle, hold, window, pass, load, allstop, sending, curt, bays⟩ := quiet
  cases d with
  | clockAdvance => exact Nat.not_le.2 clock
  | periodTimerExpiry => rintro ⟨runs, few⟩; omega
  | cycleTimerExpiry => exact Nat.not_le.2 cycle
  | linkResetHoldEnd => rintro ⟨n, held, few⟩; exact absurd (hold n held) (Nat.not_lt.2 few)
  | replyWindowClose chars => rintro ⟨-, x, polls, closes⟩; exact absurd (window x polls) (Nat.not_lt.2 closes)
  | publish => rintro ⟨p, flying, -⟩; exact absurd (flying.symm.trans pass) nofun
  | loadStaleTransition => rintro ⟨fresh, a, age, old⟩; exact absurd (load fresh a age) (Nat.not_lt.2 old)
  | allstop =>
    rintro (⟨n, sends, sent⟩ | ⟨silent, waits, free, closed⟩)
    · exact absurd (sending n sends) (Nat.not_lt.2 sent)
    · simp [silent, waits, free, closed] at allstop
  | curtLineChange level =>
    rintro ⟨-, differs, stood⟩
    exact curt.elim differs (Nat.not_lt.2 stood)
  | lapse b => rintro ⟨n, runs, few⟩; exact absurd ((bays b).1 n runs) (Nat.not_lt.2 few)
  | reversalTimerExpiry b => rintro ⟨r, runs, few⟩; exact absurd ((bays b).2 r runs) (Nat.not_lt.2 few)
  | _ => exact id

/-- With nothing due the time passes and nothing else. -/
theorem step_quiet (idle : s.pending = []) (quiet : Quiet s) :
    step s = .next { elapsed s with freeIndex := s.freeIndex + 1 } := by
  have empty : takenOrder s = [] := by
    refine List.eq_nil_iff_forall_not_mem.2 fun d mem => ?_
    by_cases publishes : d = .publish
    · obtain ⟨-, -, -, -, -, -, pass, -⟩ := quiet
      exact absurd pass (pass_of_publish_mem (publishes ▸ mem))
    · exact not_comesDue_of_quiet quiet d ((mem_takenOrder_iff_comesDue publishes).1 mem)
  have taken := takenInTurn_passTime s
  rw [empty] at taken
  have same : passTime s = indexed (elapsed s) (s.freeIndex + 1) := taken
  rw [step_running idle quiet.1, same]
  rfl

/-- One event due, and no pass that may publish before its bound: the step is that event's row. -/
theorem step_one {c : Instr} (idle : s.pending = []) (running : s.pins.held = false) (pass : s.pass = none ∨ c = .publish)
    (only : ∀ d, ComesDue s d ↔ d = c) : step s = exec c { elapsed s with freeIndex := s.freeIndex + 2 } := by
  have mem (d : Instr) : d ∈ takenOrder s ↔ d = c := by
    by_cases publishes : d = .publish
    · subst publishes
      exact ⟨fun mem => (pass.resolve_left (pass_of_publish_mem mem)).symm, fun same => publish_mem_takenOrder ((only _).2 same)⟩
    · exact (mem_takenOrder_iff_comesDue publishes).trans (only d)
  have single : takenOrder s = [c] := List.perm_singleton.1
    ((List.perm_ext_iff_of_nodup (nodup_takenOrder s) (List.nodup_singleton c)).2 fun d => (mem d).trans List.mem_singleton.symm)
  have taken := takenInTurn_passTime s
  rw [single] at taken
  obtain ⟨u, run, -, last⟩ := taken
  rw [step_running idle running, show passTime s = u from last]
  exact (run (dueStill_of_comesDue ((only c).2 rfl) _)).symm

end

/-- Settles O2: the order is `takenOrder`, its events taken in turn by `takenInTurn_passTime`; with none due, or one, the list is
empty or that one row. -/
theorem idleStepPassesTime : Obligations.IdleStepPassesTime := by
  intro s idle
  refine ⟨fun held => ?_, fun running => ?_, step_quiet idle, fun c running pass only => step_one idle running pass only⟩
  · rw [step_idle idle, tick_held held, filterTime_eq]
  · exact ⟨takenOrder s, passTime s, step_running idle running, nodup_takenOrder s, fun d other => mem_takenOrder_iff_comesDue other,
      publish_mem_takenOrder, pass_of_publish_mem, takenInTurn_passTime s⟩

end Sys2Proof.IdleStep
end

section
/-! The decoder of command frames by code and length (R174, R176, R182): every well-formed command is read back from its frame, and
every frame is answered as the catalogue of commands says. -/

namespace Sys2Proof.Port

open Sys2Proof.Machine Sys2Proof.Safety

/-! ### Every command is read back (R174) -/

section
variable {code : Byte} {p : List Byte} {i : Instr}

theorem halves_flatMap_bytes16 (loads : List Half) : halves (loads.flatMap bytes16) = some loads := by
  induction loads with
  | nil => rfl
  | cons w loads ih =>
    show (halves (loads.flatMap bytes16)).map (word16 (w.extractLsb' 8 8) (w.extractLsb' 0 8) :: ·) = _
    rw [ih, word16_bytes16]
    rfl

theorem length_flatMap_bytes16 (loads : List Half) : (loads.flatMap bytes16).length = 2 * loads.length :=
  (flatMap_bytes16_of_halves (halves_flatMap_bytes16 loads)).2

theorem decodeReportLoad_encoded {site : Half} {count : Byte} {loads : List Half} (listed : reportLoadWF count loads = true) :
    decodeReportLoad (bytes16 site ++ [count] ++ loads.flatMap bytes16) = .command (.reportLoad site count loads) := by
  simp only [reportLoadWF, Bool.and_eq_true, decide_eq_true_iff] at listed
  obtain ⟨few, length⟩ := listed
  have whole : (loads.flatMap bytes16).length = 2 * count.toNat := by rw [length_flatMap_bytes16, length]
  simp [bytes16, decodeReportLoad, whole, Nat.not_lt.2 few, halves_flatMap_bytes16, word16_bytes16]

/-- The payload of a well-formed command passes checks 4 and 5 as that command. -/
theorem decodePayload_of_encodePayload (wellFormed : i.wellFormed = true) (encoded : encodePayload i = some (code, p)) :
    decodePayload code p = .command i := by
  cases i with
  | reportLoad site count loads =>
    cases encoded
    exact decodeReportLoad_encoded wellFormed
  | frameError _ | shortTransfer | powerOnReset _ | pinReset _ | curtLineChange _ | allstop | clockAdvance | periodTimerExpiry
  | publish | cycleTimerExpiry | replyWindowClose _ | linkResetHoldEnd | lapse _ | reversalTimerExpiry _
  | loadStaleTransition => cases encoded
  | _ =>
    cases encoded
    simp [decodePayload, decodeFind, bytes16, bytes32, word16_bytes16, word32_bytes32]

/-- No command's payload is longer than a frame may declare. -/
theorem length_le_of_encodePayload (wellFormed : i.wellFormed = true) (encoded : encodePayload i = some (code, p)) :
    p.length ≤ 44 := by
  cases i with
  | reportLoad site count loads =>
    cases encoded
    simp only [Instr.wellFormed, reportLoadWF, Bool.and_eq_true, decide_eq_true_iff] at wellFormed
    simp only [List.length_append, length_flatMap_bytes16, bytes16, List.length_cons, List.length_nil]
    omega
  | frameError _ | shortTransfer | powerOnReset _ | pinReset _ | curtLineChange _ | allstop | clockAdvance | periodTimerExpiry
  | publish | cycleTimerExpiry | replyWindowClose _ | linkResetHoldEnd | lapse _ | reversalTimerExpiry _
  | loadStaleTransition => cases encoded
  | _ =>
    cases encoded
    exact Nat.le_of_ble_eq_true rfl

/-- A frame within the declared lengths is judged by its payload, whatever filler follows. -/
theorem judgeFrame_frameOf (code : Byte) (fits : p.length ≤ 44) (filler : List Byte) :
    judgeFrame (frameOf code p ++ filler) = some (decodePayload code p) := by
  have declared : p.length = (BitVec.ofNat 8 p.length).toNat := by rw [BitVec.toNat_ofNat]; omega
  have judged := judgeFrame_of_whole (code := code) declared (declared ▸ fits) (crc8 (code :: BitVec.ofNat 8 p.length :: p)) filler
  rw [if_neg (not_not.2 rfl)] at judged
  rw [← judged]
  simp [frameOf]

end

/-- Settles O3: the frame is judged by its payload, which decodes to the command it encodes. -/
theorem frameRoundTrip : Obligations.FrameRoundTrip := by
  intro i frame filler wellFormed encoded
  obtain ⟨⟨code, p⟩, payload, rfl⟩ := Option.map_eq_some_iff.1 encoded
  rw [judgeFrame_frameOf code (length_le_of_encodePayload wellFormed payload) filler,
    decodePayload_of_encodePayload wellFormed payload]

/-! ### The catalogue (R182) -/

/-- FIND and REPORT_LOAD apart, a code of the catalogue permits one length. -/
theorem catalogue_single : ∀ row ∈ catalogue, row.1 = 0x17 ∨ row.1 = 0x35 ∨ row.2 = [row.2.headD 0] := by decide

/-- The catalogue lists each code once. -/
theorem catalogue_filter : ∀ row ∈ catalogue, (catalogue.filter fun r => r.1 == row.1) = [row] := by decide

/-- A verdict is what the answer of check 5 says: that error, or some command where the payload passes. -/
def AgreesWith (answer : Option RespCode) (v : Verdict) : Prop :=
  match answer with
  | some a => v = .error a
  | none => ∃ i, v = .command i

section
variable {code : Byte} {p : List Byte} {n : Nat}

/-- What a reader of one length finds: every payload of that length is a command, every other BAD_LENGTH. -/
theorem agreesWith_layout {v : List Byte → Verdict} {passes : Prop} [Decidable passes] (length : passes ↔ p.length = n)
    (whole : ∀ f : Fin n → Byte, ∃ i, v (List.ofFn f) = .command i) (other : p.length ≠ n → v p = .error .badLength) :
    AgreesWith (if passes then none else some .badLength) (v p) := by
  by_cases fits : p.length = n
  · rw [if_pos (length.2 fits)]
    subst fits
    have entries : List.ofFn (fun k : Fin p.length => p[k]) = p := List.ofFn_getElem
    exact entries ▸ whole fun k => p[k]
  · rw [if_neg (mt length.1 fits)]
    exact other fits

/-! ### The codes of one length -/

theorem lengthAnswer_fixed (row : (code, [n]) ∈ catalogue) :
    lengthAnswer code p = if p.length = n then none else some .badLength := by
  have find : code ≠ 0x17 := by
    rintro rfl
    simp [catalogue] at row
  have report : code ≠ 0x35 := by
    rintro rfl
    simp [catalogue] at row
  have only : (catalogue.filter fun r => r.1 == code) = [(code, [n])] := catalogue_filter _ row
  unfold lengthAnswer
  rw [if_neg find, if_neg report, only]
  simp

theorem decodePayload_fixed (row : (code, [n]) ∈ catalogue) : AgreesWith (lengthAnswer code p) (decodePayload code p) := by
  rw [lengthAnswer_fixed row]
  simp only [catalogue, List.mem_cons, Prod.mk.injEq, List.cons.injEq, List.not_mem_nil, or_false, reduceCtorEq, and_false,
    and_true, false_or] at row
  casesm* _ ∨ _, _ ∧ _
  all_goals
    subst_vars
    refine agreesWith_layout .rfl (fun f => ⟨_, rfl⟩) fun other => ?_
    simp only [decodePayload, BitVec.reduceToNat]
    split
    · exact absurd rfl other
    · rfl

/-! ### FIND and REPORT_LOAD, whose length depends on a byte of the payload -/

theorem decodeFind_agrees (p : List Byte) : AgreesWith (lengthAnswer 0x17 p) (decodeFind p) := by
  cases p with
  | nil => rfl
  | cons kind rest =>
    by_cases above : 2 < kind.toNat
    · have others : kind ≠ 0 ∧ kind ≠ 1 ∧ kind ≠ 2 := by bv_omega
      have answer : lengthAnswer 0x17 (kind :: rest) = some .badValue := if_pos above
      simp only [answer, decodeFind, others, if_false]
      rfl
    have kinds : kind = 0 ∨ kind = 1 ∨ kind = 2 := by bv_omega
    rcases kinds with rfl | rfl | rfl
    all_goals
      refine agreesWith_layout (v := fun rest => decodeFind (_ :: rest)) Nat.succ_inj (fun f => ⟨_, rfl⟩) fun other => ?_
      simp only [decodeFind, if_true, BitVec.reduceEq, if_false]
      split
      · exact absurd rfl other
      · rfl

theorem exists_halves {bytes : List Byte} {k : Nat} (even : bytes.length = 2 * k) : ∃ loads, halves bytes = some loads := by
  match bytes, k with
  | [], _ => exact ⟨[], rfl⟩
  | [_], k => simp at even; omega
  | hi :: lo :: rest, k + 1 =>
    obtain ⟨loads, read⟩ := exists_halves (bytes := rest) (k := k) (by simp at even; omega)
    exact ⟨word16 hi lo :: loads, by rw [halves, read]; rfl⟩

theorem decodeReportLoad_agrees (p : List Byte) : AgreesWith (lengthAnswer 0x35 p) (decodeReportLoad p) := by
  match p with
  | [] | [_] | [_, _] => rfl
  | hi :: lo :: count :: rest =>
    have answer : lengthAnswer 0x35 (hi :: lo :: count :: rest) =
        if 4 < count.toNat then some .badValue
        else if rest.length + 3 = 3 + 2 * count.toNat then none else some .badLength := rfl
    rw [answer, decodeReportLoad]
    by_cases many : 4 < count.toNat
    · rw [if_pos many, if_pos many]
      rfl
    rw [if_neg many, if_neg many]
    by_cases whole : rest.length = 2 * count.toNat
    · obtain ⟨loads, read⟩ := exists_halves whole
      rw [if_pos whole, if_pos (by omega), read]
      exact ⟨_, rfl⟩
    · rw [if_neg whole, if_neg (by omega)]
      rfl

theorem decodePayload_unlisted (absent : ∀ row ∈ catalogue, row.1 ≠ code) : decodePayload code p = .error .badCommand := by
  have byCode {n : Nat} (value : code.toNat = n) : code = BitVec.ofNat 8 n := by
    rw [← value, BitVec.ofNat_toNat, BitVec.setWidth_eq]
  unfold decodePayload
  split
  case h_33 => rfl
  all_goals
    next value =>
      rw [byCode value] at absent
      exact absurd absent (by decide)

/-- A payload of a code of the catalogue is judged as R182 says. -/
theorem decodePayload_agrees (listed : ∃ row ∈ catalogue, row.1 = code) :
    AgreesWith (lengthAnswer code p) (decodePayload code p) := by
  obtain ⟨row, mem, rfl⟩ := listed
  rcases catalogue_single row mem with find | report | single
  · rw [find]
    exact decodeFind_agrees p
  · rw [report]
    exact decodeReportLoad_agrees p
  · exact decodePayload_fixed (n := row.2.headD 0) (by rw [← single]; exact mem)

end

/-- Settles O5: each frame by its form, and a whole frame with the right CRC by its code and then by the length of its payload. -/
theorem frameJudging : Obligations.FrameJudging := by
  intro code n rest s
  refine ⟨exec_frameError_of_error rfl s, fun early => exec_frameError_of_error ?_ s, ?_⟩
  · rcases early with above | short
    · exact judgeFrame_of_gt above rest
    · exact judgeFrame_of_short (Nat.le_of_lt_succ short)
  rintro payload filler crc fits length rfl
  have judged := judgeFrame_of_whole (code := code) length fits crc filler
  refine ⟨fun wrong => exec_frameError_of_error (judged.trans (by rw [if_pos wrong])) s, fun right => ?_⟩
  rw [if_neg (not_not.2 right)] at judged
  refine ⟨fun absent => exec_frameError_of_error (judged.trans (by rw [decodePayload_unlisted absent])) s, fun listed => ?_⟩
  have agrees := decodePayload_agrees (p := payload) listed
  refine ⟨fun a answer => ?_, fun passes => ?_⟩
  · rw [answer] at agrees
    exact exec_frameError_of_error (judged.trans (congrArg some agrees)) s
  · rw [passes] at agrees
    obtain ⟨i, read⟩ := agrees
    exact ⟨i, encodePayload_of_decodePayload read, exec_frameError_of_command (judged.trans (congrArg some read)) s⟩

end Sys2Proof.Port
end

section
/-! What a transfer shifts out (R171, R173, R175, R179): the bytes of the response frame, and their bits on MISO. -/

namespace Sys2Proof.Port

open Sys2Proof.Machine Sys2Proof.Safety

/-! ### The bytes (R173, R179) -/

theorem length_misoBytes (s : State) (n : Nat) : (misoBytes s n).length = n := by
  simp only [misoBytes, zeros, List.length_append, List.length_take, List.length_replicate]
  omega

/-- The bytes of the response frame, and 0x00 after them. -/
theorem getElem?_misoBytes (s : State) {n k : Nat} (within : k < n) :
    (misoBytes s n)[k]? = some (((responseFrame s.response)[k]?).getD 0x00) := by
  unfold misoBytes
  by_cases inFrame : k < (responseFrame s.response).length
  · rw [List.getElem?_append_left (by rw [List.length_take]; omega), List.getElem?_take_of_lt within,
      List.getElem?_eq_getElem inFrame, Option.getD_some]
  · rw [List.getElem?_append_right (by rw [List.length_take]; omega), List.getElem?_eq_none (Nat.le_of_not_lt inFrame)]
    simp only [zeros, List.getElem?_replicate, List.length_take, Option.getD_none]
    rw [if_pos (by omega)]

/-! ### The bits (R171) -/

section
variable {s : State}

theorem misoLevel_of_idle (idle : s.pins.cs ≠ .low) : misoLevel s = none := by
  have apart : receiving s = false := by simp [receiving, idle]
  simp [misoLevel, apart]

/-- Each clock of a transfer drives the next bit on MISO, whatever MOSI carries. -/
theorem pinEdges_clocks_driven (bits : List Bool) (rx : RxFrame) (inBits : List Bool) (driven : Nat) :
    ∃ rx' inBits', pinEdges (clocks bits) (inTransfer s rx inBits driven) = inTransfer s rx' inBits' (driven + bits.length) := by
  induction bits generalizing rx inBits driven with
  | nil => exact ⟨rx, inBits, rfl⟩
  | cons bit bits ih =>
    have clocked : ∃ rx' inBits', pinEdges (clocks [bit]) (inTransfer s rx inBits driven) = inTransfer s rx' inBits' (driven + 1) := by
      rw [pinEdges_clock]
      split
      · exact ⟨_, _, rfl⟩
      · exact ⟨_, _, rfl⟩
    obtain ⟨rx', inBits', first⟩ := clocked
    obtain ⟨rx'', inBits'', rest⟩ := ih rx' inBits' (driven + 1)
    refine ⟨rx'', inBits'', ?_⟩
    rw [← List.singleton_append, clocks_append, pinEdges_append, first, rest, List.length_append, List.length_singleton,
      Nat.add_assoc]

/-- The bit on MISO in a transfer is that of the response at the number of bits driven. -/
theorem misoLevel_inTransfer (rx : RxFrame) (inBits : List Bool) (driven : Nat) :
    misoLevel (inTransfer s rx inBits driven)
      = (misoBytes s (driven / 8 + 1))[driven / 8]?.map fun b => b.getLsbD (7 - driven % 8) := rfl

theorem misoLevel_clocks (running : s.pins.held = false) (high : s.pins.cs = .high) (bits : List Bool) :
    misoLevel (pinEdges (.csFall :: clocks bits) s)
      = (misoBytes s (bits.length / 8 + 1))[bits.length / 8]?.map fun b => b.getLsbD (7 - bits.length % 8) := by
  obtain ⟨rx, inBits, clocked⟩ := pinEdges_clocks_driven (s := s) bits .empty [] 0
  have begun : pinEdges (.csFall :: clocks bits) s = inTransfer s rx inBits bits.length := by
    show pinEdges (clocks bits) (pinEdge .csFall s) = _
    rw [pinEdge_csFall running high, clocked, Nat.zero_add]
  rw [begun, misoLevel_inTransfer]

end

/-- Settles O7: the bytes by their place in the response frame, the bits by the number of clocks; the check values are evaluated. -/
theorem responseFrameBytes : Obligations.ResponseFrameBytes := by
  refine ⟨fun s n fits => ?_, fun s idle => misoLevel_of_idle idle, fun s bits b running high byte => ?_, ?_⟩
  · refine ⟨BitVec.ofNat 8 s.response.payload.length, _, ?_, rfl, length_misoBytes s n, fun k within => getElem?_misoBytes s within⟩
    rw [BitVec.toNat_ofNat]
    omega
  · rw [misoLevel_clocks running high, byte, Option.map_some]
  · decide +kernel

end Sys2Proof.Port
end

section
/-! The learning point of one result (R65 to R68), and the pass requests of ALLOCATE_NOW and the period timer (R73 to R75). -/

namespace Sys2Proof.Publishing

open Sys2Proof.Machine Sys2Proof.Safety Sys2Proof.OrderTable Sys2Proof.Allocation Sys2Proof.ProfileTable Sys2Proof.Commitment

/-! ### The learning point (R65 to R68) -/

/-- In a sound table the profile found by a tag is the one that has it (R56). -/
theorem find_tag_iff {s : State} (sound : ProfilesSound s) {tag : Tag} {p : Profile} :
    s.profiles.find? (fun q => q.tag == tag) = some p ↔ p ∈ s.profiles ∧ p.tag = tag := by
  constructor
  · intro found
    exact ⟨List.mem_of_find?_eq_some found, by simpa using List.find?_some found⟩
  · rintro ⟨mem, rfl⟩
    have found := findProfile_of_mem sound mem
    rwa [findProfile, if_neg (tag_ne_zero sound ⟨p, mem, rfl⟩)] at found

/-- Settles O26: a result that has its order's learning mark clear learns as `Learns` says; with the mark set it learns nothing. -/
theorem learningPointUpdatesProfile : Obligations.LearningPointUpdatesProfile := by
  intro s now r o a sound order active holds started activation
  have slot := slotAt_applyResult (now := now) order r.head.slot
  rw [if_pos rfl, slotWritten, show (slotAt s r.head.slot).order = some o from order, Option.map_some] at slot
  refine ⟨orderWritten now r (learnsAt r (slotAt s r.head.slot) && samples s now r) o, by rw [orderAt, slot], ?_, ?_⟩
  · rw [slot]
    simp [learnsAt, active, holds]
  cases marked : (slotAt s r.head.slot).learnMark with
  | true =>
    have quiet : learnsAt r (slotAt s r.head.slot) = false := by simp [learnsAt, marked]
    refine .inr ⟨?_, ?_, profiles_applyResult_quiet order quiet⟩
    · rintro p c ⟨fresh, -⟩
      cases fresh
    · rw [quiet, Bool.false_and, orderWritten_false]
      rfl
  | false =>
    have learns : learnsAt r (slotAt s r.head.slot) = true := (learnsAt_iff _ _).2 ⟨active, holds, marked⟩
    rw [learns, Bool.true_and]
    rcases learns_applyResult (now := now) order learns with ⟨sampled, p, a', c, sample, after⟩ | ⟨missed, after, none⟩
    · obtain ⟨-, -, found, free, active', cabin, long, far, heated⟩ := sample
      obtain rfl : a = a' := Option.some.inj (activation.symm.trans active')
      obtain ⟨mem, tag⟩ := (find_tag_iff sound).1 found
      exact .inl ⟨p, c, rfl, mem, tag, free, cabin, long, far, heated, by rw [sampled, orderWritten_true], after⟩
    · refine .inr ⟨?_, by rw [missed, orderWritten_false]; rfl, after⟩
      rintro p c ⟨-, mem, tag, free, cabin, long, far, heated⟩
      exact none p a c ⟨started, tag_ne_zero sound ⟨p, mem, tag⟩, (find_tag_iff sound).2 ⟨mem, tag⟩, free, activation, cabin, long,
        far, heated⟩

/-! ### Pass requests (R73 to R75) -/

/-- Settles O27: both are `requestPass`, and the publish of no pass is none. -/
theorem passRequests : Obligations.PassRequests := by
  intro s
  exact ⟨⟨requestPass s, rfl, requestPass_spec s⟩, ⟨periodExpiry s, rfl, requestPass_spec _⟩,
    fun idle => congrArg Host.Outcome.next (publishPass_idle idle)⟩

end Sys2Proof.Publishing
end

section
/-! The ceiling and the caps (R101 to R106): what each command stores and answers, and their values after each reset. -/

namespace Sys2Proof.SiteBudget

open Sys2Proof.Machine Sys2Proof.Safety Sys2Proof.OrderTable Sys2Proof.SettingsRange Sys2Proof.Protection

/-! ### The commands (R101 to R106) -/

/-- A command answered OK with one field of two bytes. -/
theorem answers_half {c : Instr} {s t : State} (value : Nat) (run : exec c s = .next (answer .ok (be16 value) t)) :
    Answers c s t [2] [value] := ⟨rfl, be16 value, readFields_be16_last value, run⟩

theorem exec_setCeiling_unset {s : State} (unset : s.ceiling = 0) (value : Half) :
    exec (.setCeiling value) s =
      .next (answer .ok (be16 (clamp 1 20000 value.toNat))
        { s with ceiling := clamp 1 20000 value.toNat, workingCap := clamp 1 20000 value.toNat }) := by
  rw [exec, execSetCeiling, setCeiling, if_pos unset]

theorem exec_setCeiling_set {s : State} (set : s.ceiling ≠ 0) (value : Half) :
    exec (.setCeiling value) s = .next (refuse .writeOnce s) := by
  rw [exec, execSetCeiling, setCeiling, if_neg set]

/-! ### The resets (R101 to R106) -/

/-- The sample of the CURT line at the end of a reset writes neither the ceiling nor a cap. -/
theorem caps_sampleLine (s : State) :
    (sampleLine s).ceiling = s.ceiling ∧ (sampleLine s).workingCap = s.workingCap ∧ (sampleLine s).curtailCap = s.curtailCap
      ∧ (sampleLine s).fallbackCap = s.fallbackCap := by
  have same {α : Type} (read : State → α) : read (settings (sampleLine s)) = read (settings s) :=
    congrArg read (settings_sampleLine s)
  exact ⟨same State.ceiling, same State.workingCap, same State.curtailCap, same State.fallbackCap⟩

theorem caps_powerOnReset (curt : Bool) (s : State) :
    (powerOnReset curt s).ceiling = 0 ∧ (powerOnReset curt s).workingCap = 0 ∧ (powerOnReset curt s).curtailCap = 0
      ∧ (powerOnReset curt s).fallbackCap = 0 := caps_sampleLine _

theorem caps_pinReset (curt : Bool) (s : State) :
    (pinReset curt s).ceiling = s.ceiling ∧ (pinReset curt s).workingCap = s.ceiling ∧ (pinReset curt s).curtailCap = 0
      ∧ (pinReset curt s).fallbackCap = 0 := caps_sampleLine _

theorem caps_softReset (s : State) :
    (softReset s).ceiling = s.ceiling ∧ (softReset s).workingCap = s.workingCap ∧ (softReset s).curtailCap = s.curtailCap
      ∧ (softReset s).fallbackCap = s.fallbackCap := by
  obtain ⟨ceiling, working, curtail, fallback⟩ := caps_sampleLine (softStart s)
  rw [softReset_eq, ceiling, working, curtail, fallback]
  simp only [softStart, mapBays_ceiling, mapSlots_ceiling, mapBays_workingCap, mapSlots_workingCap, mapBays_curtailCap,
    mapSlots_curtailCap, mapBays_fallbackCap, mapSlots_fallbackCap, and_self]

/-- Settles O35: each command by its equation, each reset by what the sample of the CURT line leaves. -/
theorem ceilingOnceAndCapsClamped : Obligations.CeilingOnceAndCapsClamped := by
  intro value curt s
  obtain ⟨cold, coldCaps⟩ := caps_powerOnReset curt s
  obtain ⟨pin, pinCaps⟩ := caps_pinReset curt s
  obtain ⟨soft, softCaps⟩ := caps_softReset s
  exact ⟨fun unset => answers_half _ (exec_setCeiling_unset unset value), fun set => exec_setCeiling_set set value,
    ⟨_, exec_powerOnReset curt s, cold⟩, ⟨_, exec_pinReset curt s, pin⟩, ⟨_, exec_softReset s, soft⟩,
    answers_half _ rfl, answers_half _ rfl, answers_half _ rfl,
    ⟨_, exec_powerOnReset curt s, coldCaps⟩, ⟨_, exec_pinReset curt s, pinCaps⟩, ⟨_, exec_softReset s, softCaps⟩⟩

end Sys2Proof.SiteBudget
end

section
/-! A step of a waiting command, and the state after a power-on reset: every invariant that the steps keep holds in it. -/

namespace Sys2Proof.Startup

open Sys2Proof.Machine Sys2Proof.Safety Sys2Proof.OrderTable Sys2Proof.SettingsRange Sys2Proof.BayTable
  Sys2Proof.ModeReversal

/-- Settles O1: on a waiting command `step` is its row. -/
theorem stepRunsFrontCommand : Obligations.StepRunsFrontCommand := by
  intro c rest s waiting
  rw [step, waiting]

/-- No bay holds or is offered a step after a power-on reset (R146). -/
theorem committed_reset : committed State.reset = 0 :=
  List.sum_eq_zero fun n mem => by
    obtain ⟨b, -, rfl⟩ := List.mem_map.1 mem
    simp [charge, State.reset, Bay.initial, Grant.initial]

theorem commitSound_reset : CommitSound State.reset := ⟨le_rfl, committed_reset.le, nofun⟩

theorem linkSound_reset : LinkSound State.reset := by simp [LinkSound, State.reset, holdTime]

/-- Settles O54: no order, no pass and no profile, every bay OFF, the link in break, the caps 0. -/
theorem resetStateIsSound : Obligations.ResetStateIsSound := by
  obtain ⟨limits, profiles⟩ := (settingsSound_iff State.reset).1 settingsSound_reset
  obtain ⟨queues, orders, ahead⟩ := (tableSound_iff State.reset).1 tableSound_reset
  have off : AllOff State.reset := allOff_of_initial rfl (bayAt_reset_bays rfl)
  obtain ⟨reversal, heads⟩ := (guardSound_iff State.reset).1 off.guardSound
  exact ⟨limits, profiles, baysSound_reset, linkSound_reset, queues, orders, ahead, commitSound_reset, reversal, heads,
    ⟨Nat.zero_le _, fun _ => rfl, fun _ => rfl⟩, fun _ => rfl, fun _ => rfl⟩

end Sys2Proof.Startup
end
